-- ==== Sys2Proof/Word.lean ====
section
/-! DEFINITION. The bytes and words of the host link's messages, the names the commands' operands take
their values from, and the requests of the host link with their fields (R187, R188, R190). -/

namespace Sys2Proof

/-- One byte of a message on the host link (R170, R188). -/
abbrev Byte := BitVec 8

/-- A two-byte field of a message (R187). -/
abbrev Half := BitVec 16

/-- A four-byte field of a message (R187). -/
abbrev Word := BitVec 32

/-- A node's serial number, 0 to 4,294,967,295 (R1). The part only ever compares serials. -/
abbrev Serial := BitVec 32

/-- The checked content of a host link frame: what stands between LENGTH and CRC (R188). -/
structure Frame where
  kind : Byte
  tag  : Byte
  body : List Byte
  deriving DecidableEq, Repr

/-- The two tachometer channels (R37). -/
inductive TachoName where
  | a
  | b
  deriving DecidableEq, Repr

/-- The levels of the two lines of a quadrature pair, true for high (R37). -/
structure Pair where
  line1 : Bool
  line2 : Bool
  deriving DecidableEq, Repr

/-- The levels of the two rate strap pins, true for high (R34). -/
structure Straps where
  rate1 : Bool
  rate0 : Bool
  deriving DecidableEq, Repr

/-- The pins whose levels a reset takes as it finds them: the rate straps (R34) and the two tachometer pairs
(R37). -/
structure Pins where
  straps : Straps
  tachA  : Pair
  tachB  : Pair
  deriving DecidableEq, Repr

/-- The condition a node reports in STAT (R144). -/
inductive NodeCond where
  | ready
  | notReady
  | fault
  deriving DecidableEq, Repr

/-- The flags a node reports in STAT (R144) and the channel unit gathers (R119, R133). -/
structure NodeFlags where
  setpointMissed : Bool
  clipped        : Bool
  overcurrent    : Bool
  pressureDip    : Bool
  deriving DecidableEq, Repr

/-- The outcome of a CLAIM round of the muster (R147). -/
inductive ClaimOutcome where
  | noClaim
  | garbled
  | claim (serial : Serial)
  deriving DecidableEq, Repr

/-- The outcome of the contention of a CALL window (R157): an alert key carries an address 1 to 15 as its
prefix, a join key carries prefix 16 and the node's serial. -/
inductive WindowKey where
  | noCall
  | garbled
  | alert (address : Nat)
  | join (serial : Serial)
  deriving DecidableEq, Repr

/-- The kinds of alert a node sends (R144, R163). -/
inductive AlertKind where
  | actuator
  | pressure
  | overtravel
  | sensor
  | supply
  | note
  deriving DecidableEq, Repr

/-- A car record of SetFormation as its sixteen bytes carry it (R190), reserved bytes included. -/
structure CarWire where
  index    : Byte
  tilting  : Byte
  sensing  : Byte
  rsv3     : Byte
  serial   : Word
  front    : Half
  rear     : Half
  lead     : Half
  rsv14    : Byte
  rsv15    : Byte
  deriving DecidableEq, Repr

/-- A segment record of AddSegments as its twenty bytes carry it (R190), reserved bytes included. -/
structure SegmentWire where
  start      : Word
  length     : Word
  curveStart : Half
  curveStop  : Half
  cantStart  : Half
  cantStop   : Half
  cap        : Half
  rsv18      : Byte
  rsv19      : Byte
  deriving DecidableEq, Repr

/-- A request of the host link with the fields of its body (R188, R190). -/
inductive Request where
  | identify
  | queryStatus
  | commission
  | returnToSetup
  | startRun (origin : Word)
  | endRun
  | enableTilt
  | disableTilt
  | resumeTilt
  | reset
  | setParameters (values : Vector Word 28)
  | getParameters
  | setFormation (count rsv1 rsv2 rsv3 : Byte) (records : List CarWire)
  | getFormation
  | resolveCapture (number : Half) (rsv2 rsv3 : Byte) (x : Word)
  | queryPosition
  | openBatch (declared : Word)
  | addSegments (count rsv1 rsv2 rsv3 : Byte) (records : List SegmentWire)
  | closeBatch (count : Byte)
  | truncateGeometry (x : Word)
  | queryGeometry
  | queryCar (car : Byte)
  | clearCarFault (car : Byte)
  | rollCall
  | nodeTransfer (car direction item rsv3 : Byte) (value : Half)
  | readAlerts
  | setReporting (period : Half)
  deriving DecidableEq, Repr

end Sys2Proof
end

