-- ==== Sys2Proof/Config.lean ====
section
/-! DEFINITION. The fixed figures of the part: capacities, limits and codes that no request changes. The
manual leaves no value free that a command of this block needs, so there is no opaque constant here. -/

namespace Sys2Proof.Config

/-- The lower end of the range of a route position, in cm (conventions of 00_scope.md). -/
def posMin : Int := -2147483648

/-- The upper end of the range of a route position, in cm (conventions of 00_scope.md). -/
def posMax : Int := 2147483647

/-- The bound on a route position that a request carries (R23, R54, R62, R68, R77). -/
def routeLimit : Int := 2000000000

/-- The ceiling of the position uncertainty, in µm (R44). -/
def uCeiling : Nat := 1000000000

/-- The greatest speed, in cm/s (R38, R45). -/
def speedCeiling : Nat := 8000

/-- Entries of a speed window (R38, R45). -/
def windowLength : Nat := 10

/-- Silent slots after which a channel may fail, and where the count is held (R39, R40). -/
def silentLimit : Nat := 100

/-- The other channel's speed at which a silent channel fails, in cm/s (R40). -/
def failureSpeed : Nat := 500

/-- Open captures held at most (R50). -/
def captureCapacity : Nat := 8

/-- The highest capture number (R50). -/
def captureLast : Nat := 65535

/-- Committed segments held at most (R64). -/
def committedCapacity : Nat := 256

/-- Staged segments held at most (R67). -/
def stagedCapacity : Nat := 32

/-- Segments in one AddSegments (R69). -/
def segmentsPerRequest : Nat := 8

/-- Samples of the history ring (R87). -/
def ringCapacity : Nat := 1024

/-- Cars of a formation (R1). -/
def carCapacity : Nat := 12

/-- Alert records held at most (R163). -/
def alertCapacity : Nat := 8

/-- NodeTransfers outstanding at most (R165). -/
def transferCapacity : Nat := 4

/-- Parked serials held at most (R143). -/
def parkedCapacity : Nat := 24

/-- CLAIM rounds of a muster at most (R150). -/
def musterRounds : Nat := 24

/-- Characters the receive FIFO holds (R171). -/
def fifoCapacity : Nat := 64

/-- Where the counters of 16 bits saturate (R143, R175). -/
def counterMax : Nat := 65535

/-- The clamp of a reported angle, in mdeg (R145). -/
def angleLimit : Int := 12000

/-- The clamp of a measured lateral acceleration, in mm/s² (R88). -/
def measuredLimit : Int := 8000

/-- The clamp of a computed lateral acceleration, in mm/s² (R107, R110). -/
def computedLimit : Int := 4000

/-- Where the tracking-error count is held (R132). -/
def trackingCeiling : Nat := 200

/-- The greatest telemetry period, in planner computations (R183, R184). -/
def reportingMax : Nat := 250

/-- The part code that Identify reports (R191). -/
def partCode : Half := 0x0612#16

/-- The sync value that opens a frame (R188). -/
def sync : Byte := 0xC5#8

end Sys2Proof.Config
end

