-- ==== Sys2Proof/Machine/Arith.lean ====
section
/-! DEFINITION. The arithmetic words of the manual (conventions of 00_scope.md, Arithmetic). -/

namespace Sys2Proof.Machine

/-- clamp(x, lo, hi). -/
def clamp (x lo hi : Int) : Int := if x < lo then lo else if hi < x then hi else x

/-- x clamped to ±m. -/
def clampAbs (x m : Int) : Int := clamp x (-m) m

/-- n / d rounded to the nearest integer, a half away from zero, for a positive d. -/
def rounded (n d : Int) : Int :=
  if 0 ≤ n then (2 * n + d) / (2 * d) else -((2 * (-n) + d) / (2 * d))

/-- n / d rounded toward zero. -/
def truncated (n d : Int) : Int := Int.tdiv n d

/-- Held at the ends of the position range. -/
def saturatePos (x : Int) : Int := clamp x Config.posMin Config.posMax

/-- One more on a counter that is held at `top`. -/
def countUp (n top : Nat) : Nat := if n < top then n + 1 else n

/-- Whether a route position that a request carries lies within its range. -/
def inRoute (x : Int) : Bool := decide (-Config.routeLimit ≤ x ∧ x ≤ Config.routeLimit)

end Sys2Proof.Machine
end

