-- ==== Sys2Proof/Machine/Bytes.lean ====
section
/-! DEFINITION. How the host link's messages are laid out in bytes: the fields (R187), the CRC (R174), the
frame (R188) and the reply header (R189). -/

namespace Sys2Proof.Machine

open Sys2Proof

/-! ## Fields, least significant byte first (R187) -/

def bytes2 (x : Half) : List Byte := [x.extractLsb' 0 8, x.extractLsb' 8 8]

def bytes4 (x : Word) : List Byte :=
  [x.extractLsb' 0 8, x.extractLsb' 8 8, x.extractLsb' 16 8, x.extractLsb' 24 8]

def half (b0 b1 : Byte) : Half := b1 ++ b0

def word (b0 b1 b2 b3 : Byte) : Word := ((b3 ++ b2 : BitVec 16) ++ (b1 ++ b0 : BitVec 16) : BitVec 32)

/-- An unsigned field of one byte, held at the end of its range. -/
def u8 (n : Nat) : Byte := BitVec.ofNat 8 (min n 255)

/-- An unsigned field of two bytes, held at the end of its range. -/
def u16 (n : Nat) : List Byte := bytes2 (BitVec.ofNat 16 (min n 65535))

/-- An unsigned field of four bytes, held at the end of its range. -/
def u32 (n : Nat) : List Byte := bytes4 (BitVec.ofNat 32 (min n 4294967295))

/-- A signed field of two bytes, held at the nearer end of its range. -/
def i16 (x : Int) : List Byte := bytes2 (BitVec.ofInt 16 (clamp x (-32768) 32767))

/-- A signed field of four bytes, held at the nearer end of its range. -/
def i32 (x : Int) : List Byte := bytes4 (BitVec.ofInt 32 (saturatePos x))

/-- A yes/no field. -/
def yesNo (b : Bool) : Byte := if b then 1#8 else 0#8

/-- n bytes marked reserved, which the part sends as 0. -/
def reserved (n : Nat) : List Byte := List.replicate n 0#8

/-- A set of named values as one byte, the member of bit 0 first. -/
def setByte (members : List Bool) : Byte :=
  members.foldr (fun m b => (b <<< 1) ||| yesNo m) 0#8

/-! ## The CRC (R174) -/

/-- One bit of the CRC register's shift against the polynomial 0x1021. -/
def crcShift (r : BitVec 16) : BitVec 16 :=
  if r.msb then (r <<< 1) ^^^ 0x1021#16 else r <<< 1

/-- One character, most significant bit first. -/
def crcByte (r : BitVec 16) (b : Byte) : BitVec 16 :=
  let r := r ^^^ (b.setWidth 16 <<< 8)
  crcShift (crcShift (crcShift (crcShift (crcShift (crcShift (crcShift (crcShift r)))))))

/-- The CRC of a run of characters, from 0xFFFF. -/
def crc16 (bs : List Byte) : BitVec 16 := bs.foldl crcByte 0xFFFF#16

/-! ## The frame (R188) -/

/-- LENGTH, KIND, TAG and BODY of a frame, the characters the CRC covers. -/
def coveredBytes (f : Frame) : List Byte := u8 (f.body.length + 2) :: f.kind :: f.tag :: f.body

/-- Every byte of a frame on the link, SYNC to CRC. -/
def frameBytes (f : Frame) : List Byte :=
  Config.sync :: (coveredBytes f ++ bytes2 (crc16 (coveredBytes f)))

/-! ## The character (R170) -/

/-- The number of ones among the bits of a byte is odd. -/
def isOdd (b : Byte) : Bool := (List.range 8).foldl (fun x i => x ^^ b.getLsbD i) false

/-- The eleven bits of a character in the order they stand on the line, the first as bit 0: the start bit 0, the data
bits from the least significant, the bit of even parity, the stop bit 1 (R170). -/
def charBits (b : Byte) : BitVec 11 := (1#1 ++ BitVec.ofBool (isOdd b)) ++ b ++ 0#1

/-- The characters of a frame, back to back (R170, R188). -/
def frameChars (f : Frame) : List (BitVec 11) := (frameBytes f).map charBits

/-! ## Reply header and codes (R189) -/

/-- The result codes. -/
inductive ResultCode where
  | ok
  | unknownKind
  | badLength
  | badValue
  | wrongMode
  | busy
  | full
  | refused
  | notFound
  | stale
  | done
  | nodeRefused
  | noAnswer
  | carUnbound
  | lineStopped
  deriving DecidableEq, Repr

def resultByte : ResultCode → Byte
  | .ok => 0#8
  | .unknownKind => 1#8
  | .badLength => 2#8
  | .badValue => 3#8
  | .wrongMode => 4#8
  | .busy => 5#8
  | .full => 6#8
  | .refused => 7#8
  | .notFound => 8#8
  | .stale => 9#8
  | .done => 10#8
  | .nodeRefused => 11#8
  | .noAnswer => 12#8
  | .carUnbound => 13#8
  | .lineStopped => 14#8

/-- The detail codes. -/
inductive Detail where
  | none
  | noFormation
  | returning
  | line
  | inhibit
  | noBatch
  | count
  | start
  | gap
  | order
  | capacity
  | protectedZone
  | notFailed
  | unbound
  | noStatus
  | nodeFault
  | halted
  | index
  | range
  | firstBogie
  | sensing
  | serial
  | field
  deriving DecidableEq, Repr

def detailByte : Detail → Byte
  | .none => 0#8
  | .noFormation => 1#8
  | .returning => 2#8
  | .line => 3#8
  | .inhibit => 4#8
  | .noBatch => 5#8
  | .count => 6#8
  | .start => 7#8
  | .gap => 8#8
  | .order => 9#8
  | .capacity => 10#8
  | .protectedZone => 11#8
  | .notFailed => 12#8
  | .unbound => 13#8
  | .noStatus => 14#8
  | .nodeFault => 15#8
  | .halted => 16#8
  | .index => 17#8
  | .range => 18#8
  | .firstBogie => 19#8
  | .sensing => 20#8
  | .serial => 21#8
  | .field => 22#8

/-- The four-byte header of a reply or completion. -/
def header (r : ResultCode) (d : Detail) (arg : Nat) : List Byte := resultByte r :: detailByte d :: u16 arg

/-- A reply or completion: the request's code plus 0x80, its tag, the header and what follows it. -/
def replyFrame (code tag : Byte) (r : ResultCode) (d : Detail) (arg : Nat) (rest : List Byte) : Frame :=
  { kind := code + 0x80#8, tag := tag, body := header r d arg ++ rest }

/-- An OK reply with its body. -/
def okFrame (code tag : Byte) (body : List Byte) : Frame := replyFrame code tag .ok .none 0 body

end Sys2Proof.Machine
end

