-- ==== Sys2Proof/Syntax.lean ====
section
/-! DEFINITION. The commands of the block: one constructor per row of spec/opcode_table.json. A request row
carries the frame's tag and the fields of its body (R190). An event row carries what the outside world
supplies to the event: a sampled level, a received character, the outcome of an echo or of a contention, a
node's frame. -/

namespace Sys2Proof

/-- The commands of the TC612, in the order of spec/opcode_table.json. -/
inductive Instr where
  | identify (tag : Byte)
  | queryStatus (tag : Byte)
  | commission (tag : Byte)
  | returnToSetup (tag : Byte)
  | startRun (tag : Byte) (origin : Word)
  | endRun (tag : Byte)
  | enableTilt (tag : Byte)
  | disableTilt (tag : Byte)
  | resumeTilt (tag : Byte)
  | reset (tag : Byte)
  | setParameters (tag : Byte) (values : Vector Word 28)
  | getParameters (tag : Byte)
  | setFormation (tag count rsv1 rsv2 rsv3 : Byte) (records : List CarWire)
  | getFormation (tag : Byte)
  | resolveCapture (tag : Byte) (number : Half) (rsv2 rsv3 : Byte) (x : Word)
  | queryPosition (tag : Byte)
  | openBatch (tag : Byte) (declared : Word)
  | addSegments (tag count rsv1 rsv2 rsv3 : Byte) (records : List SegmentWire)
  | closeBatch (tag count : Byte)
  | truncateGeometry (tag : Byte) (x : Word)
  | queryGeometry (tag : Byte)
  | queryCar (tag car : Byte)
  | clearCarFault (tag car : Byte)
  | rollCall (tag : Byte)
  | nodeTransfer (tag car direction item rsv3 : Byte) (value : Half)
  | readAlerts (tag : Byte)
  | setReporting (tag : Byte) (period : Half)
  | unknownKind (kind tag : Byte) (body : List Byte)
  | resetN (pins : Pins)
  | inhibitSample (asserted : Bool)
  | inhibitAsserted
  | inhibitReleased
  | markerSample (high : Bool)
  | markerRisingEdge
  | pulseDecode (channel : TachoName) (levels : Pair)
  | odometrySlot
  | tachoFailed (channel : TachoName)
  | plannerComputation
  | telemetryCountdown
  | targetListArrival
  | lineCycle
  | frameEcho (matched : Bool)
  | lineHalt
  | stat (address : Nat) (angle : Int) (condition : NodeCond) (flags : NodeFlags) (acceleration : Option Int)
  | tracking (car : Nat)
  | replySilence
  | nodeLost (car : Nat)
  | mrsp (address : Nat) (accepted : Bool) (value : Half)
  | claimRound (outcome : ClaimOutcome)
  | musterEnd
  | contentionKey (key : WindowKey)
  | alrt (address : Nat) (kind : AlertKind) (detail : Half)
  | frameEnd
  | gap
  | frameSent (pins : Pins)
  | characterReceived (data : Byte) (parity stop : Bool)
  | characterTaken
  | rxdIdleLevel
  | resetNAsserted
  deriving DecidableEq, Repr

end Sys2Proof
end

