-- ==== Sys2Proof/Decode.lean ====
section
/-! DEFINITION. From the bytes of a request frame to the request and back (R176, R188, R190), and the answer
to what command a table word spells: the rows of spec/opcode_table.json give no bits, so none. -/

namespace Sys2Proof

open Sys2Proof.Machine

/-- The KIND code of a request (R188). -/
def requestCode : Request → Byte
  | .identify => 0x01#8
  | .queryStatus => 0x02#8
  | .commission => 0x03#8
  | .returnToSetup => 0x04#8
  | .startRun _ => 0x05#8
  | .endRun => 0x06#8
  | .enableTilt => 0x07#8
  | .disableTilt => 0x08#8
  | .resumeTilt => 0x09#8
  | .reset => 0x0A#8
  | .setParameters _ => 0x10#8
  | .getParameters => 0x11#8
  | .setFormation .. => 0x12#8
  | .getFormation => 0x13#8
  | .resolveCapture .. => 0x18#8
  | .queryPosition => 0x19#8
  | .openBatch _ => 0x20#8
  | .addSegments .. => 0x21#8
  | .closeBatch _ => 0x22#8
  | .truncateGeometry _ => 0x23#8
  | .queryGeometry => 0x24#8
  | .queryCar _ => 0x28#8
  | .clearCarFault _ => 0x29#8
  | .rollCall => 0x30#8
  | .nodeTransfer .. => 0x31#8
  | .readAlerts => 0x32#8
  | .setReporting _ => 0x38#8

/-- Every request code of the table (R188). -/
def requestCodes : List Byte :=
  [0x01#8, 0x02#8, 0x03#8, 0x04#8, 0x05#8, 0x06#8, 0x07#8, 0x08#8, 0x09#8, 0x0A#8, 0x10#8, 0x11#8, 0x12#8,
   0x13#8, 0x18#8, 0x19#8, 0x20#8, 0x21#8, 0x22#8, 0x23#8, 0x24#8, 0x28#8, 0x29#8, 0x30#8, 0x31#8, 0x32#8,
   0x38#8]

/-! ## Encoding -/

/-- The sixteen bytes of a car record (R190). -/
def carBytes (c : CarWire) : List Byte :=
  [c.index, c.tilting, c.sensing, c.rsv3] ++ bytes4 c.serial ++ bytes2 c.front ++ bytes2 c.rear ++
    bytes2 c.lead ++ [c.rsv14, c.rsv15]

/-- The twenty bytes of a segment record (R190). -/
def segmentBytes (g : SegmentWire) : List Byte :=
  bytes4 g.start ++ bytes4 g.length ++ bytes2 g.curveStart ++ bytes2 g.curveStop ++ bytes2 g.cantStart ++
    bytes2 g.cantStop ++ bytes2 g.cap ++ [g.rsv18, g.rsv19]

/-- The body of a request (R190). -/
def requestBody : Request → List Byte
  | .startRun origin => bytes4 origin
  | .setParameters values => values.toList.flatMap bytes4
  | .setFormation count r1 r2 r3 records => [count, r1, r2, r3] ++ records.flatMap carBytes
  | .resolveCapture number r2 r3 x => bytes2 number ++ [r2, r3] ++ bytes4 x
  | .openBatch declared => bytes4 declared
  | .addSegments count r1 r2 r3 records => [count, r1, r2, r3] ++ records.flatMap segmentBytes
  | .closeBatch count => [count]
  | .truncateGeometry x => bytes4 x
  | .queryCar car => [car]
  | .clearCarFault car => [car]
  | .nodeTransfer car direction item r3 value => [car, direction, item, r3] ++ bytes2 value
  | .setReporting period => bytes2 period
  | .identify | .queryStatus | .commission | .returnToSetup | .endRun | .enableTilt | .disableTilt
  | .resumeTilt | .reset | .getParameters | .getFormation | .queryPosition | .queryGeometry | .rollCall
  | .readAlerts => []

/-- The frame that carries a request under a tag (R188). -/
def requestFrame (tag : Byte) (r : Request) : Frame :=
  { kind := requestCode r, tag := tag, body := requestBody r }

/-! ## Decoding -/

/-- What the link's first two checks make of a frame (R176, checks 1 and 2). -/
inductive Decoded where
  | unknownKind
  | badLength
  | request (r : Request)
  deriving DecidableEq, Repr

/-- A body of length 0. -/
def decodeEmpty (r : Request) : List Byte → Decoded
  | [] => .request r
  | _ => .badLength

/-- A body of one byte. -/
def decodeByte (f : Byte → Request) : List Byte → Decoded
  | [a] => .request (f a)
  | _ => .badLength

/-- A body of one two-byte field. -/
def decodeHalf (f : Half → Request) : List Byte → Decoded
  | [a, b] => .request (f (half a b))
  | _ => .badLength

/-- A body of one four-byte field. -/
def decodeWord (f : Word → Request) : List Byte → Decoded
  | [a, b, c, d] => .request (f (word a b c d))
  | _ => .badLength

/-- Exactly n four-byte fields, or none. -/
def wordsOf : Nat → List Byte → Option (List Word)
  | 0, [] => some []
  | n + 1, a :: b :: c :: d :: rest => (wordsOf n rest).map (word a b c d :: ·)
  | _, _ => none

/-- Exactly n car records, or none. -/
def carsOf : Nat → List Byte → Option (List CarWire)
  | 0, [] => some []
  | n + 1, b0 :: b1 :: b2 :: b3 :: b4 :: b5 :: b6 :: b7 :: b8 :: b9 :: b10 :: b11 :: b12 :: b13 :: b14 :: b15 :: rest =>
    (carsOf n rest).map
      ({ index := b0, tilting := b1, sensing := b2, rsv3 := b3, serial := word b4 b5 b6 b7,
         front := half b8 b9, rear := half b10 b11, lead := half b12 b13, rsv14 := b14, rsv15 := b15 } :: ·)
  | _, _ => none

/-- Exactly n segment records, or none. -/
def segmentsOf : Nat → List Byte → Option (List SegmentWire)
  | 0, [] => some []
  | n + 1, b0 :: b1 :: b2 :: b3 :: b4 :: b5 :: b6 :: b7 :: b8 :: b9 :: b10 :: b11 :: b12 :: b13 :: b14 :: b15 ::
      b16 :: b17 :: b18 :: b19 :: rest =>
    (segmentsOf n rest).map
      ({ start := word b0 b1 b2 b3, length := word b4 b5 b6 b7, curveStart := half b8 b9,
         curveStop := half b10 b11, cantStart := half b12 b13, cantStop := half b14 b15, cap := half b16 b17,
         rsv18 := b18, rsv19 := b19 } :: ·)
  | _, _ => none

def decodeParameters (body : List Byte) : Decoded :=
  match wordsOf 28 body with
  | some ws => if h : ws.length = 28 then .request (.setParameters ⟨ws.toArray, by simpa using h⟩) else .badLength
  | none => .badLength

/-- The count a body of SetFormation carries must give its length. -/
def decodeFormation : List Byte → Decoded
  | count :: r1 :: r2 :: r3 :: rest =>
    match carsOf count.toNat rest with
    | some records => .request (.setFormation count r1 r2 r3 records)
    | none => .badLength
  | _ => .badLength

/-- The count a body of AddSegments carries must give its length. -/
def decodeSegments : List Byte → Decoded
  | count :: r1 :: r2 :: r3 :: rest =>
    match segmentsOf count.toNat rest with
    | some records => .request (.addSegments count r1 r2 r3 records)
    | none => .badLength
  | _ => .badLength

def decodeResolve : List Byte → Decoded
  | [n0, n1, r2, r3, x0, x1, x2, x3] => .request (.resolveCapture (half n0 n1) r2 r3 (word x0 x1 x2 x3))
  | _ => .badLength

def decodeTransfer : List Byte → Decoded
  | [car, direction, item, r3, v0, v1] => .request (.nodeTransfer car direction item r3 (half v0 v1))
  | _ => .badLength

/-- The request a checked frame carries, or which of the link's first two checks it fails (R176, R190). -/
def decodeFrame (f : Frame) : Decoded :=
  match f.kind.toNat with
  | 0x01 => decodeEmpty .identify f.body
  | 0x02 => decodeEmpty .queryStatus f.body
  | 0x03 => decodeEmpty .commission f.body
  | 0x04 => decodeEmpty .returnToSetup f.body
  | 0x05 => decodeWord .startRun f.body
  | 0x06 => decodeEmpty .endRun f.body
  | 0x07 => decodeEmpty .enableTilt f.body
  | 0x08 => decodeEmpty .disableTilt f.body
  | 0x09 => decodeEmpty .resumeTilt f.body
  | 0x0A => decodeEmpty .reset f.body
  | 0x10 => decodeParameters f.body
  | 0x11 => decodeEmpty .getParameters f.body
  | 0x12 => decodeFormation f.body
  | 0x13 => decodeEmpty .getFormation f.body
  | 0x18 => decodeResolve f.body
  | 0x19 => decodeEmpty .queryPosition f.body
  | 0x20 => decodeWord .openBatch f.body
  | 0x21 => decodeSegments f.body
  | 0x22 => decodeByte .closeBatch f.body
  | 0x23 => decodeWord .truncateGeometry f.body
  | 0x24 => decodeEmpty .queryGeometry f.body
  | 0x28 => decodeByte .queryCar f.body
  | 0x29 => decodeByte .clearCarFault f.body
  | 0x30 => decodeEmpty .rollCall f.body
  | 0x31 => decodeTransfer f.body
  | 0x32 => decodeEmpty .readAlerts f.body
  | 0x38 => decodeHalf .setReporting f.body
  | _ => .unknownKind

/-! ## The link's checks on the fields of a request -/

/-- The records a request carries are as many as the count it carries (R176, check 2; R190). -/
def lengthAgrees : Request → Bool
  | .setFormation count _ _ _ records => records.length == count.toNat
  | .addSegments count _ _ _ records => records.length == count.toNat
  | _ => true

/-- The first byte of the list that is not 0, the list numbered from the offsets it holds. -/
def firstNonZero : List (Nat × Byte) → Option Nat
  | [] => none
  | (offset, b) :: rest => if b = 0#8 then firstNonZero rest else some offset

/-- The reserved bytes of the car records, with their body offsets, the first record at offset `at0`. -/
def carReserved : Nat → List CarWire → List (Nat × Byte)
  | _, [] => []
  | at0, c :: rest =>
    (at0 + 3, c.rsv3) :: (at0 + 14, c.rsv14) :: (at0 + 15, c.rsv15) :: carReserved (at0 + 16) rest

/-- The reserved bytes of the segment records, with their body offsets, the first record at offset `at0`. -/
def segmentReserved : Nat → List SegmentWire → List (Nat × Byte)
  | _, [] => []
  | at0, g :: rest => (at0 + 18, g.rsv18) :: (at0 + 19, g.rsv19) :: segmentReserved (at0 + 20) rest

/-- The body offset of the first reserved byte that is not 0 (R176, check 4; R189). -/
def reservedFault : Request → Option Nat
  | .setFormation _ r1 r2 r3 records => firstNonZero ((1, r1) :: (2, r2) :: (3, r3) :: carReserved 4 records)
  | .resolveCapture _ r2 r3 _ => firstNonZero [(2, r2), (3, r3)]
  | .addSegments _ r1 r2 r3 records =>
    firstNonZero ((1, r1) :: (2, r2) :: (3, r3) :: segmentReserved 4 records)
  | .nodeTransfer _ _ _ r3 _ => firstNonZero [(3, r3)]
  | _ => none

/-- The tag and the request that a request's command carries; none for the other commands. -/
def commandRequest : Instr → Option (Byte × Request)
  | .identify tag => some (tag, .identify)
  | .queryStatus tag => some (tag, .queryStatus)
  | .commission tag => some (tag, .commission)
  | .returnToSetup tag => some (tag, .returnToSetup)
  | .startRun tag origin => some (tag, .startRun origin)
  | .endRun tag => some (tag, .endRun)
  | .enableTilt tag => some (tag, .enableTilt)
  | .disableTilt tag => some (tag, .disableTilt)
  | .resumeTilt tag => some (tag, .resumeTilt)
  | .reset tag => some (tag, .reset)
  | .setParameters tag values => some (tag, .setParameters values)
  | .getParameters tag => some (tag, .getParameters)
  | .setFormation tag count rsv1 rsv2 rsv3 records => some (tag, .setFormation count rsv1 rsv2 rsv3 records)
  | .getFormation tag => some (tag, .getFormation)
  | .resolveCapture tag number rsv2 rsv3 x => some (tag, .resolveCapture number rsv2 rsv3 x)
  | .queryPosition tag => some (tag, .queryPosition)
  | .openBatch tag declared => some (tag, .openBatch declared)
  | .addSegments tag count rsv1 rsv2 rsv3 records => some (tag, .addSegments count rsv1 rsv2 rsv3 records)
  | .closeBatch tag count => some (tag, .closeBatch count)
  | .truncateGeometry tag x => some (tag, .truncateGeometry x)
  | .queryGeometry tag => some (tag, .queryGeometry)
  | .queryCar tag car => some (tag, .queryCar car)
  | .clearCarFault tag car => some (tag, .clearCarFault car)
  | .rollCall tag => some (tag, .rollCall)
  | .nodeTransfer tag car direction item rsv3 value => some (tag, .nodeTransfer car direction item rsv3 value)
  | .readAlerts tag => some (tag, .readAlerts)
  | .setReporting tag period => some (tag, .setReporting period)
  | .unknownKind _ _ _ | .resetN _ | .inhibitSample _ | .inhibitAsserted | .inhibitReleased
  | .markerSample _ | .markerRisingEdge | .pulseDecode _ _ | .odometrySlot | .tachoFailed _
  | .plannerComputation | .telemetryCountdown | .targetListArrival | .lineCycle | .frameEcho _ | .lineHalt
  | .stat _ _ _ _ _ | .tracking _ | .replySilence | .nodeLost _ | .mrsp _ _ _ | .claimRound _ | .musterEnd
  | .contentionKey _ | .alrt _ _ _ | .frameEnd | .gap | .frameSent _ | .characterReceived _ _ _
  | .characterTaken | .rxdIdleLevel | .resetNAsserted => none

/-- The frame whose good end a command stands for (R174, R188); none for the commands that are no frame's. -/
def commandFrame : Instr → Option Frame
  | .unknownKind kind tag body => some { kind := kind, tag := tag, body := body }
  | i => (commandRequest i).map (fun x => requestFrame x.1 x.2)

/-- The command that a word spells by the table's bits. No row of spec/opcode_table.json gives bits, so no
word spells one. -/
def decodeTableWord (_nbits _w : Nat) : Option Instr := none

end Sys2Proof
end

