-- ==== Sys2Proof/Machine/State.lean ====
section
/-! DEFINITION. The state of the TC612 as plain data, block by block, the reasons a step can stop, the
update of one block, and the state after reset. -/

namespace Sys2Proof.Machine

open Sys2Proof

/-! ## The mode controller -/

/-- The device mode (R17). -/
inductive Mode where
  | setup
  | standby
  | active
  | inhibited
  deriving DecidableEq, Repr

/-- The recorded cause of the last mode change made without a request (R29, R31). -/
inductive Cause where
  | none
  | inhibit
  | lineHalted
  deriving DecidableEq, Repr

/-- The state of the mode controller (R17, R28, R29, R31, R32, R34). -/
structure ModeCtl where
  /-- The device mode (R17). -/
  mode : Mode
  /-- The run flag (R17). -/
  run : Bool
  /-- The accepted level of the inhibit filter, true for ASSERTED (R28). -/
  inhibit : Bool
  /-- The opposing-sample count of the inhibit filter (R28). -/
  inhibitCount : Nat
  /-- The inhibit latch (R29). -/
  latch : Bool
  /-- The level of the CENTRE_OK output (R32). -/
  centreOk : Bool
  /-- The cause of the last mode change made without a request (R31). -/
  cause : Cause
  /-- The rate code sampled at the last reset, 0 to 3 (R34). -/
  rateCode : Nat
  deriving DecidableEq, Repr

/-! ## The formation and parameter store -/

/-- What a tilting car carries besides its place: the serial of its node and its actuator lead in ms (R1). -/
structure CarNode where
  serial : Serial
  lead   : Nat
  deriving DecidableEq, Repr

/-- A car record of the formation; the car index is its place in the table (R1). -/
structure Car where
  /-- The tilting-only fields, absent for a non-tilting car. -/
  node    : Option CarNode
  /-- Front offset f, in cm. -/
  front   : Nat
  /-- Rear offset r, in cm. -/
  rear    : Nat
  /-- Whether this car's node feeds the history ring. -/
  sensing : Bool
  deriving DecidableEq, Repr

/-- The fault policy, parameter 28 (R9). -/
inductive FaultPolicy where
  | whole
  | isolated
  deriving DecidableEq, Repr

/-- The parameter set, in field-number order (R9). The policy LOCAL of the manual is `FaultPolicy.isolated`. -/
structure Params where
  trackBase       : Nat
  compPredictive  : Nat
  compReactive    : Nat
  thetaMax        : Nat
  rateMax         : Nat
  accelMax        : Nat
  adjacentMax     : Nat
  speedMin        : Nat
  uMax            : Nat
  uResume         : Nat
  fixAccuracy     : Nat
  drift           : Nat
  slideTolerance  : Nat
  circumferenceA  : Nat
  circumferenceB  : Nat
  pulsesPerRevA   : Nat
  pulsesPerRevB   : Nat
  reactiveWindow  : Nat
  reactiveEnable  : Bool
  releaseMargin   : Nat
  lookLow         : Nat
  lookHigh        : Nat
  truncateGuard   : Nat
  captureExpiry   : Nat
  trackBand       : Nat
  trackLimit      : Nat
  centreBand      : Nat
  faultPolicy     : FaultPolicy
  deriving DecidableEq, Repr

/-- The defaults, in force after every reset (R9, R16). -/
def Params.defaults : Params :=
  { trackBase := 1500, compPredictive := 650, compReactive := 500, thetaMax := 8000, rateMax := 5000,
    accelMax := 10000, adjacentMax := 3000, speedMin := 1100, uMax := 1500, uResume := 1000,
    fixAccuracy := 50, drift := 4, slideTolerance := 30, circumferenceA := 2800, circumferenceB := 2800,
    pulsesPerRevA := 140, pulsesPerRevB := 140, reactiveWindow := 500, reactiveEnable := true,
    releaseMargin := 5000, lookLow := 300000, lookHigh := 800000, truncateGuard := 20000,
    captureExpiry := 200000, trackBand := 2500, trackLimit := 25, centreBand := 300,
    faultPolicy := .whole }

/-! ## The odometer -/

/-- The record of one tachometer channel (R37, R38). Its pulse distance and its channel speed are computed from the
parameters and from the window. -/
structure Tacho where
  /-- The levels of the pair's two lines as the pulse decoder last saw them (R37). -/
  phase     : Pair
  /-- The quarters of the cycle in progress, positive while line 1 leads; -3 to 3 (R37). -/
  quarters  : Int
  /-- Whether the channel is FAILED. -/
  failed    : Bool
  /-- The signed increment the pulse decoder has counted since the last slot (R37). -/
  increment : Int
  /-- The silent-slot count. -/
  silent    : Nat
  /-- The last ten raw slot distances in µm, oldest first. -/
  window    : List Int
  deriving DecidableEq, Repr

/-- An open marker capture (R50). -/
structure Capture where
  number   : Nat
  position : Int
  speed    : Nat
  deriving DecidableEq, Repr

/-- The state of the odometer (R37 to R61). The speed v is computed from the speed window. -/
structure Odometer where
  tachoA     : Tacho
  tachoB     : Tacho
  /-- The last ten slot distances in µm, oldest first (R45). -/
  window     : List Int
  /-- The train position P in cm (R43). -/
  pos        : Int
  /-- The remainder ρ in µm (R43). -/
  rho        : Int
  /-- The uncertainty u in µm (R44). -/
  u          : Nat
  /-- The position-trusted flag (R47). -/
  trust      : Bool
  /-- The accepted level of the marker filter, true for HIGH (R49). -/
  marker     : Bool
  /-- The opposing-sample count of the marker filter (R49). -/
  markerCount : Nat
  /-- The open captures, oldest first (R50). -/
  captures   : List Capture
  /-- The next capture number; absent when exhausted (R50, R52). -/
  nextNumber : Option Nat
  deriving DecidableEq, Repr

/-! ## The geometry store and the history ring -/

/-- A segment record (R62). -/
structure Segment where
  start      : Int
  length     : Int
  curveStart : Int
  curveStop  : Int
  cantStart  : Int
  cantStop   : Int
  cap        : Option Int
  deriving DecidableEq, Repr

/-- An OPEN batch: its declared start and its staging area in order of arrival (R67). -/
structure Batch where
  declared : Int
  staged   : List Segment
  deriving DecidableEq, Repr

/-- The state of the geometry store (R64, R67, R80). -/
structure GeoStore where
  /-- The committed segment list, in route order. -/
  committed : List Segment
  /-- The batch, absent while CLOSED. -/
  batch     : Option Batch
  /-- The look-ahead armed flag. -/
  armed     : Bool
  deriving DecidableEq, Repr

/-- A sample of the history ring (R87). -/
structure Sample where
  position : Int
  accel    : Int
  deriving DecidableEq, Repr

/-! ## The planner -/

/-- The source of a target (R100). -/
inductive Source where
  | none
  | pred
  | react
  deriving DecidableEq, Repr

/-- A planner record (R100). -/
structure PlanRecord where
  target   : Int
  source   : Source
  front    : Option Int
  rear     : Option Int
  /-- The trust fallback flag. -/
  fallback : Bool
  deriving DecidableEq, Repr

/-- One entry of a target list (R116). -/
structure Target where
  angle  : Int
  source : Source
  deriving DecidableEq, Repr

/-- The state of the planner (R100, R116, R117). -/
structure Planner where
  /-- One record per car of the formation. -/
  records   : List PlanRecord
  /-- The exhaustion latch. -/
  exhausted : Bool
  /-- A target list that has been delivered and has not yet arrived at the channel unit. -/
  delivered : Option (List Target)
  deriving DecidableEq, Repr

/-! ## The channel unit -/

/-- The channel state (R119, R120). -/
inductive ChanState where
  | notFitted
  | absent
  | centred
  | following
  | returning
  | failed
  deriving DecidableEq, Repr

/-- The fault kinds (R119, R134). -/
inductive FaultKind where
  | nodeLost
  | nodeRestart
  | nodeFault
  | tracking
  | alert
  | lineHalted
  deriving DecidableEq, Repr

/-- A set of fault kinds (R119). -/
structure FaultSet where
  nodeLost    : Bool
  nodeRestart : Bool
  nodeFault   : Bool
  tracking    : Bool
  alert       : Bool
  lineHalted  : Bool
  deriving DecidableEq, Repr

/-- A channel record (R119). -/
structure Channel where
  state      : ChanState
  /-- The set-point θ, in mdeg. -/
  theta      : Int
  /-- The step s, in mdeg. -/
  step       : Int
  /-- The sent set-point. -/
  sent       : Int
  /-- The reported angle, absent until the first STAT of a binding. -/
  angle      : Option Int
  /-- The node condition, absent until the first STAT of a binding. -/
  cond       : Option NodeCond
  flags      : NodeFlags
  /-- The tracking-error count. -/
  trackCount : Nat
  faults     : FaultSet
  firstFault : Option FaultKind
  /-- The fault-unreported flag. -/
  unreported : Bool
  deriving DecidableEq, Repr

/-! ## The car line controller -/

/-- The line state (R142). -/
inductive LineState where
  | off
  | mustering
  | cycling
  | halted
  deriving DecidableEq, Repr

/-- What the line controller holds per car: the serial of the bound node, absent while none is bound, and the miss
count (R143). The address of car k is k + 1 (R3), so the list of these is the binding table. -/
structure NodeLink where
  serial : Option Serial
  miss   : Nat
  deriving DecidableEq, Repr

/-- The foreign-node table: the serial at each foreign address in use (R143). -/
structure Foreign where
  at13 : Option Serial
  at14 : Option Serial
  at15 : Option Serial
  deriving DecidableEq, Repr

/-- An entry of the maintenance queue (R165): car index, whether it is a WRITE, item, value, the tag. -/
structure Transfer where
  car   : Nat
  write : Bool
  item  : Byte
  value : Half
  tag   : Byte
  deriving DecidableEq, Repr

/-- An alert record (R163). -/
structure Alert where
  car      : Nat
  kind     : AlertKind
  detail   : Half
  position : Int
  deriving DecidableEq, Repr

/-- The muster in progress: the tag of its RollCall and the CLAIM rounds opened so far (R148, R150). -/
structure Muster where
  tag   : Byte
  round : Nat
  deriving DecidableEq, Repr

/-- The frames the part sends on the car line, as data (R144; log entry 13). The set-points of SET stand in address
order 1 to 15, absent for "centre". -/
inductive LineFrame where
  | muster
  | claim
  | name (serial : Serial) (address : Nat)
  | park (serial : Serial)
  | set (points : List (Option Int))
  | ask (address : Nat)
  | mreq (address : Nat) (write : Bool) (item : Byte) (value : Half)
  | call
  | leave (address : Nat)
  deriving DecidableEq, Repr

/-- Where the exchange on the car line stands (R145 to R161). `quiet` is the line between cycles. `echo` and
`takeEcho` hold the frame the part has sent and whose echo is not yet compared; TAKE has its own form because its echo
decides what becomes of the alert it answers. The others await what the delivered frame called for. -/
inductive Exchange where
  | quiet
  | echo (frame : LineFrame)
  /-- TAKE has been sent to the address; the alert is present when it is to be kept (R158, R159). -/
  | takeEcho (address : Nat) (alert : Option (AlertKind × Half))
  /-- A frame that was being sent when its cycle or its exchange was cut off: only its echo is still compared (R6,
  R148; log entry 8). -/
  | cut
  /-- CLAIM delivered: the outcome of the round is awaited (R147). -/
  | round
  /-- ASK delivered: the reply of the address is awaited (R145). -/
  | stat (address : Nat)
  /-- MREQ delivered: the reply for the head of the maintenance queue is awaited (R156). -/
  | mrsp
  /-- CALL delivered: the contention key is awaited (R157). -/
  | window
  /-- An alert key has been read: the ALRT of the address is awaited (R158). -/
  | alrt (address : Nat)
  deriving DecidableEq, Repr

/-- The state of the car line controller (R142, R143). -/
structure CarLine where
  state     : LineState
  /-- The binding table and the miss counts, one entry per car of the formation. -/
  nodes     : List NodeLink
  foreign   : Foreign
  parked    : List Serial
  /-- The echo-mismatch count. -/
  echoCount : Nat
  /-- The echo-mismatch total. -/
  echoTotal : Nat
  /-- The maintenance queue, oldest first. -/
  maint     : List Transfer
  /-- The alert queue, oldest first. -/
  alerts    : List Alert
  /-- The muster in progress, absent outside MUSTERING. -/
  muster    : Option Muster
  exch      : Exchange
  deriving DecidableEq, Repr

/-! ## The host link -/

/-- A character of the receive FIFO with its marks (R171, R172). -/
structure RxChar where
  data    : Byte
  parity  : Bool
  framing : Bool
  overrun : Bool
  gap     : Bool
  deriving DecidableEq, Repr

/-- The frame assembler (R173): in COLLECT the assembly buffer in order of arrival, the characters still to come and
the spoiled flag. In HUNT and LENGTH the buffer is empty. -/
inductive Assembler where
  | hunt
  | length
  | collect (buffer : List Byte) (left : Nat) (spoiled : Bool)
  deriving DecidableEq, Repr

/-- The kinds of notice, highest priority first (R181). -/
inductive NoticeKind where
  | mode
  | cars
  | line
  | position
  | geometry
  | alerts
  | telemetry
  deriving DecidableEq, Repr

/-- A notice kind's pending mark and its event flags, numbered as R191 numbers them. -/
structure Notice where
  pending : Bool
  flags   : Half
  deriving DecidableEq, Repr

/-- The notice set (R181). -/
structure Notices where
  mode      : Notice
  cars      : Notice
  line      : Notice
  position  : Notice
  geometry  : Notice
  alerts    : Notice
  telemetry : Notice
  deriving DecidableEq, Repr

/-- The state of the host link (R171 to R185). -/
structure HostLink where
  /-- The receiver waits for the idle level before it decodes the next character (R171). -/
  waitIdle    : Bool
  /-- The gap timer runs (R172). -/
  gapRunning  : Bool
  /-- The receive FIFO, oldest first (R171). -/
  fifo        : List RxChar
  /-- An overrun is pending (R171). -/
  overrun     : Bool
  asm         : Assembler
  /-- The request slot (R174). -/
  slot        : Option Frame
  /-- The reply slot (R177). -/
  reply       : Option Frame
  /-- The completion list, oldest first (R178). -/
  completions : List Frame
  /-- An accepted Reset waits to take effect (R36). -/
  resetWaiting : Bool
  notices     : Notices
  /-- The telemetry period (R183). -/
  period      : Nat
  /-- The telemetry countdown (R183). -/
  countdown   : Nat
  /-- Bad frames (R175). -/
  bad         : Nat
  /-- Broken frames (R175). -/
  broken      : Nat
  /-- Refused frames (R175). -/
  refused     : Nat
  /-- The characters of the frame being sent, SYNC to CRC, each with its bits in the order they leave on TXD (R170);
  absent while the transmitter is idle (R180). -/
  sending     : Option (List (BitVec 11))
  deriving DecidableEq, Repr

/-! ## The whole part -/

/-- The state of the TC612: the queue of waiting commands, then each block. -/
structure State where
  /-- The commands that wait, first in first out. The queue is the model's own, not the part's. -/
  pending : List Instr
  /-- RESET_N is held low (R35). -/
  inReset : Bool
  ctl     : ModeCtl
  /-- The formation table; empty while no formation exists (R1). -/
  cars    : List Car
  params  : Params
  odo     : Odometer
  geo     : GeoStore
  /-- The history ring, oldest sample first (R87). -/
  ring    : List Sample
  plan    : Planner
  /-- The channel records, one per car of the formation (R119). -/
  chans   : List Channel
  line    : CarLine
  link    : HostLink
  deriving DecidableEq, Repr

/-- The reasons the part stops with a fault. No rule of the manual stops the part, so there is none: the type has no
constructor and no command answers a fault. Safe. -/
inductive Fault where
  deriving DecidableEq, Repr

/-- The reasons a command is refused. -/
inductive Refusal where
  /-- A command that has no meaning yet, by its mnemonic; raised by `exec` alone. Every command has its meaning, so
  nothing raises it. Safe: a run would stop there. -/
  | notModelled (mnemonic : String)
  deriving DecidableEq, Repr

/-- What a step answers. -/
abbrev Result := Host.Outcome State Fault Refusal

/-! ## Updates of one block -/

def State.setCtl (s : State) (x : ModeCtl) : State := { s with ctl := x }
def State.setCars (s : State) (x : List Car) : State := { s with cars := x }
def State.setParams (s : State) (x : Params) : State := { s with params := x }
def State.setOdo (s : State) (x : Odometer) : State := { s with odo := x }
def State.setGeo (s : State) (x : GeoStore) : State := { s with geo := x }
def State.setRing (s : State) (x : List Sample) : State := { s with ring := x }
def State.setPlan (s : State) (x : Planner) : State := { s with plan := x }
def State.setChans (s : State) (x : List Channel) : State := { s with chans := x }
def State.setLine (s : State) (x : CarLine) : State := { s with line := x }
def State.setLink (s : State) (x : HostLink) : State := { s with link := x }

/-! ## Reset -/

/-- A notice kind that is not pending (R185). -/
def Notice.clear : Notice := { pending := false, flags := 0#16 }

/-- The notice set with nothing pending. -/
def Notices.clear : Notices :=
  { mode := .clear, cars := .clear, line := .clear, position := .clear, geometry := .clear,
    alerts := .clear, telemetry := .clear }

/-- A tachometer channel after reset, its pair at the levels given (R37, R38, R61). -/
def Tacho.fresh (phase : Pair) : Tacho :=
  { phase := phase, quarters := 0, failed := false, increment := 0, silent := 0,
    window := List.replicate Config.windowLength 0 }

/-- No node flag (R121). -/
def noNodeFlags : NodeFlags :=
  { setpointMissed := false, clipped := false, overcurrent := false, pressureDip := false }

/-- No fault kind (R121). -/
def FaultSet.empty : FaultSet :=
  { nodeLost := false, nodeRestart := false, nodeFault := false, tracking := false, alert := false,
    lineHalted := false }

/-- The rate code of the strap levels (R34). -/
def rateCodeOf (straps : Straps) : Nat :=
  (if straps.rate1 then 2 else 0) + (if straps.rate0 then 1 else 0)

/-- The mode controller after reset with the straps at the levels given (R35). -/
def ModeCtl.afterReset (straps : Straps) : ModeCtl :=
  { mode := .setup, run := false, inhibit := true, inhibitCount := 0, latch := true, centreOk := false,
    cause := .none, rateCode := rateCodeOf straps }

/-- The odometer after reset, the pairs at the levels given (R37, R61). -/
def Odometer.afterReset (pairA pairB : Pair) : Odometer :=
  { tachoA := .fresh pairA, tachoB := .fresh pairB, window := List.replicate Config.windowLength 0, pos := 0, rho := 0,
    u := Config.uCeiling, trust := false, marker := false, markerCount := 0, captures := [],
    nextNumber := some 1 }

/-- The geometry store after reset (R86). -/
def GeoStore.afterReset : GeoStore := { committed := [], batch := none, armed := false }

/-- The planner after reset (R100, R117). -/
def Planner.afterReset : Planner := { records := [], exhausted := false, delivered := none }

/-- The car line controller after reset (R142, R143). -/
def CarLine.afterReset : CarLine :=
  { state := .off, nodes := [], foreign := { at13 := none, at14 := none, at15 := none }, parked := [],
    echoCount := 0, echoTotal := 0, maint := [], alerts := [], muster := none, exch := .quiet }

/-- The host link after reset: MODE is pending with the flag RESET (R185). -/
def HostLink.afterReset : HostLink :=
  { waitIdle := true, gapRunning := false, fifo := [], overrun := false, asm := .hunt, slot := none,
    reply := none, completions := [], resetWaiting := false,
    notices := { Notices.clear with mode := { pending := true, flags := 1#16 } },
    period := 0, countdown := 0, bad := 0, broken := 0, refused := 0, sending := none }

/-- Every block at its reset values, the pins at the levels given (R35). The queue of waiting commands is handed on,
since it lies outside the part. -/
def State.afterReset (pending : List Instr) (pins : Pins) : State :=
  { pending := pending, inReset := false, ctl := .afterReset pins.straps, cars := [], params := .defaults,
    odo := .afterReset pins.tachA pins.tachB, geo := .afterReset, ring := [], plan := .afterReset, chans := [],
    line := .afterReset, link := .afterReset }

/-- Every sampled pin low. -/
def Pins.low : Pins :=
  { straps := { rate1 := false, rate0 := false }, tachA := { line1 := false, line2 := false },
    tachB := { line1 := false, line2 := false } }

/-- The machine right after reset, nothing waiting. DESIGN CHOICE (log entry 2): both rate straps and all four
tachometer lines low; the manual makes them the levels of pins. -/
def State.reset : State := State.afterReset [] Pins.low

end Sys2Proof.Machine
end

