-- ==== Sys2Proof/Machine/Flags.lean ====
section
/-! DEFINITION. The sets of flags and faults, the codes of named values (enumeration table of the message
formats chapter), and the notice set with its raises (R181). -/

namespace Sys2Proof.Machine

open Sys2Proof

/-! ## Codes of named values (R187 and the enumeration table) -/

def modeCode : Mode → Byte
  | .setup => 0#8
  | .standby => 1#8
  | .active => 2#8
  | .inhibited => 3#8

def causeCode : Cause → Byte
  | .none => 0#8
  | .inhibit => 1#8
  | .lineHalted => 2#8

def lineStateCode : LineState → Byte
  | .off => 0#8
  | .mustering => 1#8
  | .cycling => 2#8
  | .halted => 3#8

def chanStateCode : ChanState → Byte
  | .notFitted => 0#8
  | .absent => 1#8
  | .centred => 2#8
  | .following => 3#8
  | .returning => 4#8
  | .failed => 5#8

def sourceCode : Source → Byte
  | .none => 0#8
  | .pred => 1#8
  | .react => 2#8

/-- An absent node condition is 0xFF. -/
def condCode : Option NodeCond → Byte
  | some .ready => 0#8
  | some .notReady => 1#8
  | some .fault => 2#8
  | none => 0xFF#8

def alertCode : AlertKind → Byte
  | .actuator => 0#8
  | .pressure => 1#8
  | .overtravel => 2#8
  | .sensor => 3#8
  | .supply => 4#8
  | .note => 5#8

/-- An absent first fault is 0xFF. -/
def faultCode : Option FaultKind → Byte
  | some .nodeLost => 0#8
  | some .nodeRestart => 1#8
  | some .nodeFault => 2#8
  | some .tracking => 3#8
  | some .alert => 4#8
  | some .lineHalted => 5#8
  | none => 0xFF#8

/-! ## Node flags (R133) -/

/-- The flags gathered: a flag already present stays present (R131). -/
def unionFlags (x y : NodeFlags) : NodeFlags :=
  { setpointMissed := x.setpointMissed || y.setpointMissed, clipped := x.clipped || y.clipped,
    overcurrent := x.overcurrent || y.overcurrent, pressureDip := x.pressureDip || y.pressureDip }

def nodeFlagsByte (x : NodeFlags) : Byte := setByte [x.setpointMissed, x.clipped, x.overcurrent, x.pressureDip]

/-! ## Fault sets (R134, R135) -/

def FaultSet.has (x : FaultSet) : FaultKind → Bool
  | .nodeLost => x.nodeLost
  | .nodeRestart => x.nodeRestart
  | .nodeFault => x.nodeFault
  | .tracking => x.tracking
  | .alert => x.alert
  | .lineHalted => x.lineHalted

def FaultSet.add (x : FaultSet) : FaultKind → FaultSet
  | .nodeLost => { x with nodeLost := true }
  | .nodeRestart => { x with nodeRestart := true }
  | .nodeFault => { x with nodeFault := true }
  | .tracking => { x with tracking := true }
  | .alert => { x with alert := true }
  | .lineHalted => { x with lineHalted := true }

def faultSetByte (x : FaultSet) : Byte :=
  setByte [x.nodeLost, x.nodeRestart, x.nodeFault, x.tracking, x.alert, x.lineHalted]

/-! ## Notices (R181) -/

def flagLineHalted : Half := 1#16
def flagJoined : Half := 2#16
def flagForeign : Half := 4#16
def flagOverfull : Half := 8#16
def flagCaptured : Half := 1#16
def flagCaptureDropped : Half := 2#16
def flagCaptureRefused : Half := 4#16
def flagCaptureExpired : Half := 8#16
def flagTrustChanged : Half := 16#16
def flagSlide : Half := 32#16
def flagTachoFailed : Half := 64#16
def flagLargeCorrection : Half := 128#16
def flagLookLow : Half := 1#16
def flagExhausted : Half := 2#16
/-- A raise without an event flag. -/
def noFlag : Half := 0#16

def Notices.get (n : Notices) : NoticeKind → Notice
  | .mode => n.mode
  | .cars => n.cars
  | .line => n.line
  | .position => n.position
  | .geometry => n.geometry
  | .alerts => n.alerts
  | .telemetry => n.telemetry

def Notices.set (n : Notices) (k : NoticeKind) (x : Notice) : Notices :=
  match k with
  | .mode => { n with mode := x }
  | .cars => { n with cars := x }
  | .line => { n with line := x }
  | .position => { n with position := x }
  | .geometry => { n with geometry := x }
  | .alerts => { n with alerts := x }
  | .telemetry => { n with telemetry := x }

/-- A raise sets the kind's pending mark and adds its flag (R181). -/
def Notices.raise (n : Notices) (k : NoticeKind) (flag : Half) : Notices :=
  n.set k { pending := true, flags := (n.get k).flags ||| flag }

/-- The kinds in order of priority (R181). -/
def noticeOrder : List NoticeKind := [.mode, .cars, .line, .position, .geometry, .alerts, .telemetry]

/-- A block raises a notice kind, with its event flag (R181). -/
def State.raise (s : State) (k : NoticeKind) (flag : Half) : State :=
  s.setLink { s.link with notices := s.link.notices.raise k flag }

/-- A raise made only where the condition holds. -/
def State.raiseIf (s : State) (c : Bool) (k : NoticeKind) (flag : Half) : State :=
  if c then s.raise k flag else s

end Sys2Proof.Machine
end

