-- ==== Sys2Proof/Machine/Ops.lean ====
section
/-! DEFINITION. The operations that several commands share: how a command acts while the part is held in
reset, replies and completions, the figures derived from the formation and the parameters, CENTRE_OK, the
faults of a car, and the ends of bindings. -/

namespace Sys2Proof.Machine

open Sys2Proof

/-- A command acts on the part unless RESET_N is held low: the part is then held in reset and nothing reaches
it (R35). -/
def unlessHeld (s : State) (t : State) : Result := .next (if s.inReset then s else t)

/-! ## Replies and completions (R177, R178) -/

/-- The reply is placed in the reply slot (R177). -/
def State.respond (s : State) (f : Frame) : State := s.setLink { s.link with reply := some f }

/-- A completion joins the tail of the completion list (R178). -/
def State.complete (s : State) (f : Frame) : State :=
  s.setLink { s.link with completions := s.link.completions ++ [f] }

/-- A request is refused: only the header is sent (R189). -/
def State.refuse (s : State) (code tag : Byte) (r : ResultCode) (d : Detail) : State :=
  s.respond (replyFrame code tag r d 0 [])

/-- A refusal whose detail carries an argument (R189). -/
def State.refuseAt (s : State) (code tag : Byte) (r : ResultCode) (d : Detail) (arg : Nat) : State :=
  s.respond (replyFrame code tag r d arg [])

/-- A request is accepted with an immediate reply. -/
def State.accept (s : State) (code tag : Byte) (body : List Byte) : State := s.respond (okFrame code tag body)

/-- The body that most requests of the mode controller answer with: mode, run, reserved (R191). -/
def modeBody (s : State) : List Byte := [modeCode s.ctl.mode, yesNo s.ctl.run] ++ reserved 2

/-! ## Figures derived from the formation, computed at their use (R2, R3; log entry 14) -/

def Car.tilting (c : Car) : Bool := c.node.isSome

/-- The number of tilting cars, 0 without a formation (R2). -/
def tiltingCount (s : State) : Nat := s.cars.countP Car.tilting

def formationExists (s : State) : Bool := !s.cars.isEmpty

def tailOffset (s : State) : Int := ((s.cars.getLast?.map Car.rear).getD 0 : Nat)

def largestLead (s : State) : Nat :=
  s.cars.foldl (fun m c => max m ((c.node.map CarNode.lead).getD 0)) 0

def sensingCar (s : State) : Option Nat := s.cars.findIdx? Car.sensing

/-- The tilting car of the formation whose node has this serial (R149, R160). -/
def carOfSerial (s : State) (serial : Serial) : Option Nat :=
  s.cars.findIdx? (fun c => c.node.map CarNode.serial == some serial)

/-- Whether car k is a tilting car of the formation. -/
def isTilting (s : State) (k : Nat) : Bool := ((s.cars[k]?).map Car.tilting).getD false

/-- Whether the node of car k is bound (R143). -/
def isBound (s : State) (k : Nat) : Bool := ((s.line.nodes[k]?).map (fun n => n.serial.isSome)).getD false

/-- The car indexes of the formation, in order. -/
def carIndexes (s : State) : List Nat := List.range s.cars.length

/-- The number of tilting cars whose node is bound (R150, R167). -/
def boundCount (s : State) : Nat := (carIndexes s).countP (fun k => isTilting s k && isBound s k)

/-- The number of tilting cars without a bound node (R150, R167). -/
def missingCount (s : State) : Nat := tiltingCount s - boundCount s

/-! ## Derived constants, computed at their use (R12, R13; log entry 14) -/

/-- The step limit, in mdeg per planner period. -/
def Params.sMax (p : Params) : Nat := p.rateMax * 20 / 1000

/-- The step increment, in mdeg per period per period. -/
def Params.dStep (p : Params) : Nat := max 1 (p.accelMax * 400 / 1000000)

/-- The pulse distance of a channel, in µm. -/
def Params.pulseDistance (p : Params) : TachoName → Int
  | .a => rounded (p.circumferenceA * 1000) p.pulsesPerRevA
  | .b => rounded (p.circumferenceB * 1000) p.pulsesPerRevB

/-! ## Figures derived from the odometer (R38, R45, R46) -/

/-- min(8,000, truncated(|sum| / 1,000)): the speed that a window of ten slot distances shows. -/
def windowSpeed (w : List Int) : Nat := min Config.speedCeiling (w.sum.natAbs / 1000)

def Tacho.speed (t : Tacho) : Nat := windowSpeed t.window

/-- The speed v, in cm/s (R45). -/
def Odometer.v (o : Odometer) : Nat := windowSpeed o.window

/-- u in cm: any remainder raises it to the next whole centimetre (R46). -/
def Odometer.uCm (o : Odometer) : Nat := (o.u + 9999) / 10000

/-! ## CENTRE_OK (R32, R33) -/

/-- A channel that keeps CENTRE_OK deasserted whatever it reports. -/
def isMoving (c : Channel) : Bool := c.state == .following || c.state == .returning

/-- A tilting car's node is bound and its latest STAT of this binding lies within ±centreBand. -/
def isConfirmed (s : State) (k : Nat) : Bool :=
  isBound s k &&
    match s.chans[k]? with
    | some c =>
      match c.angle with
      | some a => decide (a.natAbs ≤ s.params.centreBand)
      | none => false
    | none => false

/-- The conditions of R32. -/
def centreConditions (s : State) : Bool :=
  s.line.state == .cycling && s.chans.all (fun c => !isMoving c) &&
    (carIndexes s).all (fun k => !isTilting s k || isConfirmed s k)

/-- The mode controller re-evaluates CENTRE_OK (R33). -/
def State.reevaluate (s : State) : State := s.setCtl { s.ctl with centreOk := centreConditions s }

/-! ## Channels (R126, R127, R134, R135) -/

/-- A FOLLOWING channel becomes RETURNING, θ and s kept. -/
def Channel.toReturning (c : Channel) : Channel :=
  if c.state = .following then { c with state := .returning } else c

/-- Every FOLLOWING channel becomes RETURNING (R126, R127). -/
def returnAll (s : State) : State := s.setChans (s.chans.map Channel.toReturning)

/-- Any channel is RETURNING (R22, R148). -/
def anyReturning (s : State) : Bool := s.chans.any (fun c => c.state == .returning)

/-- The record of a car that has just failed (R134). -/
def Channel.toFailed (c : Channel) (kind : FaultKind) : Channel :=
  { c with state := .failed, theta := 0, step := 0, trackCount := 0, faults := c.faults.add kind,
           firstFault := some kind, unreported := true }

/-- A fault is added to the channel of car k: a car that is not FAILED becomes FAILED (R134), a FAILED car
gathers the kind (R135). A car without a node takes no fault. -/
def addFault (k : Nat) (kind : FaultKind) (s : State) : State :=
  match s.chans[k]? with
  | none => s
  | some c =>
    match c.state with
    | .notFitted => s
    | .failed =>
      if c.faults.has kind then s
      else
        (s.setChans (s.chans.set k { c with faults := c.faults.add kind, unreported := true })).raise .cars noFlag
    | _ =>
      let s1 := s.setChans (s.chans.set k (c.toFailed kind))
      let s2 := if s1.params.faultPolicy = .whole then returnAll s1 else s1
      (s2.raise .cars noFlag).reevaluate

/-! ## Bindings (R122, R123, R124, R155) -/

/-- The channel of a car whose binding ends without a fault; at a muster its fault set is emptied (R124). -/
def Channel.toAbsent (c : Channel) : Channel :=
  if c.state = .notFitted then { c with faults := .empty, firstFault := none, unreported := false }
  else
    { c with state := .absent, theta := 0, step := 0, trackCount := 0, faults := .empty, firstFault := none,
             unreported := false }

/-- The channel of a car whose node is newly bound: FAILED stays FAILED while its fault set is not empty,
every other car becomes CENTRED (R122, R123). -/
def Channel.toBound (c : Channel) : Channel :=
  { c with state := if c.faults = .empty then .centred else .failed, theta := 0, step := 0, trackCount := 0,
           angle := none, cond := none }

/-- The binding-table entry of car k is made and its channel takes its state (R122, R123, R149, R160). -/
def bindCar (k : Nat) (serial : Serial) (s : State) : State :=
  let s1 := s.setLine { s.line with nodes := s.line.nodes.set k { serial := some serial, miss := 0 } }
  (s1.setChans (s1.chans.modify k Channel.toBound)).reevaluate

/-- The entry of car k is removed from the binding table and its miss count becomes 0 (R155, R160). -/
def unbind (k : Nat) (s : State) : State :=
  (s.setLine { s.line with nodes := s.line.nodes.set k { serial := none, miss := 0 } }).reevaluate

/-- The node of car k is lost (R155). -/
def loseNode (k : Nat) (s : State) : State := addFault k .nodeLost (unbind k s)

/-- No node bound and no miss counted, for every car of the formation. -/
def noNodes (s : State) : List NodeLink := s.cars.map (fun _ => { serial := none, miss := 0 })

/-- The foreign-node table with no entry. -/
def Foreign.empty : Foreign := { at13 := none, at14 := none, at15 := none }

/-! ## Cutting an exchange off (R6, R148) -/

/-- What a cut leaves of an exchange: a frame being sent is sent to its end and its echo is compared, and nothing
else follows (log entry 8). -/
def Exchange.cutOff : Exchange → Exchange
  | .echo _ | .takeEcho _ _ | .cut => .cut
  | .quiet | .round | .stat _ | .mrsp | .window | .alrt _ => .quiet

/-! ## The maintenance queue (R166) -/

/-- The completion of a maintenance entry. Its value is sent for DONE and NODE_REFUSED and is 0 otherwise
(R189). -/
def transferFrame (t : Transfer) (r : ResultCode) (value : Half) : Frame :=
  replyFrame 0x31#8 t.tag r .none 0 (bytes2 value ++ reserved 2)

/-- Every entry of the maintenance queue is completed with LINE_STOPPED, in queue order (R6, R148, R162). -/
def flushMaintenance (s : State) : State :=
  let s1 := s.setLink
    { s.link with
      completions := s.link.completions ++ s.line.maint.map (fun t => transferFrame t .lineStopped 0#16) }
  s1.setLine { s1.line with maint := [] }

/-- The entry at the head of the maintenance queue is completed and removed (R156). -/
def completeHead (r : ResultCode) (value : Half) (s : State) : State :=
  match s.line.maint with
  | [] => s
  | t :: rest => (s.setLine { s.line with maint := rest }).complete (transferFrame t r value)

end Sys2Proof.Machine
end

