-- ==== Sys2Proof/Machine/Channels.lean ====
section
/-! DEFINITION. The channel unit: the limiter (R129), the arrival of a target list (R125, R128), the arrival of a
STAT (R131, R132), and its requests (R137, R138). -/

namespace Sys2Proof.Machine

open Sys2Proof

/-! ## The limiter (R129) -/

/-- The bits of the braking bound from the highest down: the largest b with b × (b + d) ≤ x. -/
def brakeBits (d x : Nat) : Nat → Nat → Nat
  | 0, b => b
  | n + 1, b =>
    let c := b + 2 ^ n
    brakeBits d x n (if c * (c + d) ≤ x then c else b)

/-- The largest integer b ≥ 0 with b × (b + dStep) ≤ 2 × dStep × |e| (R129, step 4). -/
def brakeBound (d e : Nat) : Nat := brakeBits d (2 * d * e) ((2 * d * e).log2 + 1) 0

/-- The step after the acceleration limit, the rate limit and braking (R129, steps 1 to 5). -/
def limitedStep (p : Params) (target theta step : Int) : Int :=
  let e := target - theta
  let d : Int := p.dStep
  let s2 := clampAbs (clamp e (step - d) (step + d)) p.sMax
  let b : Int := brakeBound p.dStep e.natAbs
  if 0 ≤ e then (if b < s2 then max b (step - d) else s2)
  else (if s2 < -b then min (-b) (step + d) else s2)

/-- One limiter pass toward a target (R129). -/
def limiterPass (p : Params) (target : Int) (c : Channel) : Channel :=
  let theta := clampAbs (c.theta + limitedStep p target c.theta c.step) p.thetaMax
  { c with theta := theta, step := theta - c.theta }

/-! ## The arrival of a target list (R125) -/

/-- No tilting car is FAILED or ABSENT. -/
def noneOut (s : State) : Bool := s.chans.all (fun c => c.state != .failed && c.state != .absent)

/-- What the train and the device allow of FOLLOWING entry: ACTIVE, and LOCAL or no tilting car FAILED or
ABSENT (R125, step 1). -/
def entryAllowed (s : State) : Bool :=
  s.ctl.mode == .active && (s.params.faultPolicy == .isolated || noneOut s)

/-- What the car's node must show for FOLLOWING entry (R125, step 1). -/
def fitToFollow (p : Params) (c : Channel) : Bool :=
  c.cond == some .ready && match c.angle with
    | some a => decide (a.natAbs ≤ p.centreBand)
    | none => false

/-- A RETURNING car that a pass has left at θ = 0 and s = 0 becomes CENTRED (R128). -/
def Channel.settle (c : Channel) : Channel :=
  if c.theta = 0 ∧ c.step = 0 then { c with state := .centred } else c

/-- What the arrival of a target list does to one car (R125, R128). -/
def arrive (p : Params) (allowed : Bool) (target : Int) (c : Channel) : Channel :=
  match c.state with
  | .centred =>
    if allowed && fitToFollow p c then limiterPass p target { c with state := .following, theta := 0, step := 0 }
    else c
  | .following => limiterPass p target c
  | .returning => (limiterPass p 0 c).settle
  | .notFitted | .absent | .failed => c

/-- The target a list carries for car k; 0 beyond its end (log entry 12). -/
def targetFor (l : List Target) (k : Nat) : Int := ((l[k]?).map Target.angle).getD 0

/-- The target list arrives (R125). -/
def takeTargets (s : State) : State :=
  match s.plan.delivered with
  | none => s
  | some l =>
    ((s.setPlan { s.plan with delivered := none }).setChans
      (s.chans.mapIdx (fun k c => arrive s.params (entryAllowed s) (targetFor l k) c))).reevaluate

/-! ## The arrival of a STAT (R131, R132) -/

/-- The record of a STAT: angle and condition set, flags gathered (R131, step 1). -/
def Channel.record (c : Channel) (angle : Int) (cond : NodeCond) (flags : NodeFlags) : Channel :=
  { c with angle := some angle, cond := some cond, flags := unionFlags c.flags flags }

/-- The tracking-error count after the test of R132. -/
def nextTrackCount (p : Params) (c : Channel) (angle : Int) : Nat :=
  if p.trackBand < (angle - c.sent).natAbs then countUp c.trackCount Config.trackingCeiling else 0

/-- A car whose tracking is tested (R132). -/
def isTracked (c : Channel) : Bool := c.state == .centred || c.state == .following || c.state == .returning

/-- The tracking test of car k against its reported angle (R132). -/
def trackingTest (k : Nat) (s : State) : State :=
  match s.chans[k]? with
  | none => s
  | some c =>
    match c.angle with
    | none => s
    | some a =>
      if isTracked c then
        let n := nextTrackCount s.params c a
        let t := s.setChans (s.chans.set k { c with trackCount := n })
        if s.params.trackLimit ≤ n then addFault k .tracking t else t
      else s

/-- A FOLLOWING car whose node is not ready becomes RETURNING (R131, step 4). -/
def notReadyTest (k : Nat) (cond : NodeCond) (s : State) : State :=
  if cond = .notReady then s.setChans (s.chans.modify k Channel.toReturning) else s

/-- A good STAT of the node bound to car k arrives at the channel unit (R131). -/
def takeStat (k : Nat) (angle : Int) (cond : NodeCond) (flags : NodeFlags) (s : State) : State :=
  let s1 := s.setChans (s.chans.modify k (fun c => c.record angle cond flags))
  let s2 := if cond = .fault then addFault k .nodeFault s1 else notReadyTest k cond (trackingTest k s1)
  s2.reevaluate

/-- The tracking test of a car whose node is bound (R132). -/
def testTracking (car : Nat) (s : State) : State := if isBound s car then trackingTest car s else s

/-! ## Requests -/

/-- The first check of R137 that refuses a ClearCarFault, after the check of the car index. -/
def clearFaultRefusal (s : State) (k : Nat) (c : Channel) : Option Detail :=
  if c.state ≠ .failed then some .notFailed
  else if s.line.state ≠ .cycling then some .line
  else if !isBound s k then some .unbound
  else if c.cond = none then some .noStatus
  else if c.cond = some .fault then some .nodeFault
  else none

/-- The record of a car whose faults are cleared (R137). -/
def Channel.cleared (c : Channel) : Channel :=
  { c with state := .centred, theta := 0, step := 0, trackCount := 0, faults := .empty, firstFault := none,
           unreported := false }

/-- ClearCarFault (R137). -/
def handleClearCarFault (tag car : Byte) (s : State) : State :=
  let k := car.toNat
  if s.cars.length ≤ k then s.refuse 0x29#8 tag .badValue .none
  else
    match s.chans[k]? with
    | none => s.refuse 0x29#8 tag .badValue .none
    | some c =>
      match clearFaultRefusal s k c with
      | some d => s.refuse 0x29#8 tag .refused d
      | none =>
        ((s.setChans (s.chans.set k c.cleared)).reevaluate).accept 0x29#8 tag
          ([faultSetByte c.faults, faultCode c.firstFault] ++ reserved 2)

/-- The channel record, the binding and the planner record of a car as QueryCar sends them (R138, R191). -/
def carReport (s : State) (k : Nat) (c : Channel) (r : PlanRecord) : List Byte :=
  [chanStateCode c.state, yesNo (isBound s k), condCode c.cond, nodeFlagsByte c.flags, u8 c.trackCount,
    faultSetByte c.faults, faultCode c.firstFault, yesNo c.unreported] ++
    i16 c.theta ++ i16 c.step ++ i16 c.sent ++ i16 (c.angle.getD 0) ++ [yesNo c.angle.isSome, 0#8] ++
    bytes4 ((((s.cars[k]?).bind Car.node).map CarNode.serial).getD 0#32) ++
    i16 r.target ++ [sourceCode r.source, yesNo r.fallback, yesNo r.front.isSome, yesNo r.rear.isSome] ++
    reserved 2 ++ i32 (r.front.getD 0) ++ i32 (r.rear.getD 0)

/-- QueryCar; its node flags are emptied once the reply is composed (R138). -/
def handleQueryCar (tag car : Byte) (s : State) : State :=
  let k := car.toNat
  if s.cars.length ≤ k then s.refuse 0x28#8 tag .badValue .none
  else
    match s.chans[k]?, s.plan.records[k]? with
    | some c, some r =>
      (s.setChans (s.chans.set k { c with flags := noNodeFlags })).accept 0x28#8 tag (carReport s k c r)
    | _, _ => s.refuse 0x28#8 tag .badValue .none

end Sys2Proof.Machine
end

