-- ==== Sys2Proof/Machine/History.lean ====
section
/-! DEFINITION. The history ring: insertion (R88, R89), trimming (R90), correction (R91) and the mean query
(R93). -/

namespace Sys2Proof.Machine

open Sys2Proof

/-- The position of the newest sample, absent while the ring is empty (R87). -/
def newestPosition (ring : List Sample) : Option Int := ring.getLast?.map Sample.position

/-- A new sample joins the ring (R89). -/
def insertSample (x : Sample) (ring : List Sample) : List Sample :=
  let kept := ring.filter (fun y => decide (y.position < x.position))
  (if kept.length < Config.ringCapacity then kept else kept.drop 1) ++ [x]

/-- The sensing car's front offset, absent where the formation has no sensing car. -/
def sensingFront (s : State) : Option Nat := ((sensingCar s).bind (fun k => s.cars[k]?)).map Car.front

/-- A STAT of the sensing car's node gives a sample (R88). -/
def takeSample (accel : Option Int) (s : State) : State :=
  match accel, sensingFront s with
  | some a, some f =>
    let x := s.odo.pos - f
    if s.ctl.run = true ∧ Config.posMin ≤ x then
      s.setRing (insertSample { position := x, accel := clampAbs a Config.measuredLimit } s.ring)
    else s
  | _, _ => s

/-- The trim test behind the tail (R90). -/
def trimRing (s : State) : State :=
  let line := s.odo.pos - tailOffset s - s.params.reactiveWindow
  s.setRing (s.ring.dropWhile (fun x => decide (x.position < line)))

/-- The correction δ of a fix is added to every sample; a sample carried out of the position range is removed
(R91). -/
def shiftRing (d : Int) (ring : List Sample) : List Sample :=
  (ring.map (fun x => { x with position := x.position + d })).filter
    (fun x => decide (Config.posMin ≤ x.position ∧ x.position ≤ Config.posMax))

/-- The mean query (R93). -/
def meanAt (q window : Int) (ring : List Sample) : Option Int :=
  let q := match newestPosition ring with
    | some n => if n < q then n else q
    | none => q
  let felt := (ring.filter (fun x => decide (q - window ≤ x.position ∧ x.position ≤ q))).map Sample.accel
  if felt = [] then none else some (truncated felt.sum felt.length)

end Sys2Proof.Machine
end

