-- ==== Sys2Proof/Machine/Modes.lean ====
section
/-! DEFINITION. The mode controller: identification and status (R19, R20), the requests that move the part
between modes and start or end a run (R21 to R27, R36), and the inhibit filter (R28 to R30). -/

namespace Sys2Proof.Machine

open Sys2Proof

/-- The host link speed in bit/s (R34). -/
def linkSpeed (rateCode : Nat) : Nat :=
  match rateCode with
  | 0 => 115200
  | 1 => 230400
  | 2 => 460800
  | _ => 921600

/-- Identify (R19). -/
def handleIdentify (tag : Byte) (s : State) : State :=
  s.accept 0x01#8 tag
    (bytes2 Config.partCode ++ [1#8, 0#8, u8 s.ctl.rateCode, 0#8] ++ u32 (linkSpeed s.ctl.rateCode) ++
      [u8 Config.carCapacity, u8 Config.captureCapacity, u8 Config.alertCapacity, u8 Config.transferCapacity] ++
      u16 Config.committedCapacity ++ u16 Config.stagedCapacity ++ u16 Config.ringCapacity ++ reserved 2)

/-- The number of channels in a state (R20, R140). -/
def channelCount (s : State) (x : ChanState) : Nat := s.chans.countP (fun c => c.state == x)

/-- QueryStatus (R20). -/
def handleQueryStatus (tag : Byte) (s : State) : State :=
  s.accept 0x02#8 tag
    ([modeCode s.ctl.mode, yesNo s.ctl.run, yesNo s.ctl.inhibit, yesNo s.ctl.latch, yesNo s.ctl.centreOk,
      causeCode s.ctl.cause, yesNo (formationExists s), u8 s.cars.length, lineStateCode s.line.state, 0#8] ++
      [ChanState.notFitted, .absent, .centred, .following, .returning, .failed].map (fun x => u8 (channelCount s x)) ++
      u16 s.link.bad ++ u16 s.link.broken ++ u16 s.link.refused)

/-- The device mode alone changes. -/
def setMode (m : Mode) (s : State) : State := s.setCtl { s.ctl with mode := m }

/-- Commission (R21). -/
def handleCommission (tag : Byte) (s : State) : State :=
  if formationExists s then
    let t := setMode .standby s
    t.accept 0x03#8 tag (modeBody t)
  else s.refuse 0x03#8 tag .refused .noFormation

/-- ReturnToSetup (R22). -/
def handleReturnToSetup (tag : Byte) (s : State) : State :=
  if anyReturning s then s.refuse 0x04#8 tag .refused .returning
  else
    let t := setMode .setup s
    t.accept 0x04#8 tag (modeBody t)

/-- A channel of the tachometer at a run start: GOOD, silent-slot count 0; the rest is kept (R59). -/
def Tacho.restart (t : Tacho) : Tacho := { t with failed := false, silent := 0 }

/-- The odometer at a run start (R59). -/
def Odometer.startRun (o : Odometer) (origin : Int) (fixAccuracy : Nat) : Odometer :=
  { o with tachoA := o.tachoA.restart, tachoB := o.tachoB.restart, pos := origin, rho := 0,
           u := fixAccuracy * 10000, trust := true, captures := [], nextNumber := some 1 }

/-- The blocks that hold run state take the start of a run (R23, R59, R84, R95). -/
def beginRun (origin : Int) (s : State) : State :=
  (((s.setCtl { s.ctl with run := true }).setOdo (s.odo.startRun origin s.params.fixAccuracy)).setGeo
    { committed := [], batch := none, armed := true }).setRing []

/-- StartRun (R23). -/
def handleStartRun (tag : Byte) (origin : Word) (s : State) : State :=
  if inRoute origin.toInt then
    let t := beginRun origin.toInt s
    t.accept 0x05#8 tag (modeBody t ++ i32 t.odo.pos)
  else s.refuse 0x05#8 tag .badValue .none

/-- The blocks that hold run state take the end of a run (R24, R60, R85, R96). -/
def finishRun (s : State) : State :=
  (((s.setCtl { s.ctl with run := false }).setOdo { s.odo with captures := [] }).setGeo
    { committed := [], batch := none, armed := false }).setRing []

/-- EndRun (R24). -/
def handleEndRun (tag : Byte) (s : State) : State :=
  let t := finishRun s
  t.accept 0x06#8 tag (modeBody t ++ i32 t.odo.pos)

/-- Tilt is enabled: the latch is cleared and the mode becomes ACTIVE (R25, R27). -/
def enterActive (s : State) : State := s.setCtl { s.ctl with mode := .active, latch := false }

/-- EnableTilt (R25). -/
def handleEnableTilt (tag : Byte) (s : State) : State :=
  if s.line.state ≠ .cycling then s.refuse 0x07#8 tag .refused .line
  else if s.ctl.inhibit then s.refuse 0x07#8 tag .refused .inhibit
  else
    let t := enterActive s
    t.accept 0x07#8 tag (modeBody t)

/-- DisableTilt (R26, R126). -/
def handleDisableTilt (tag : Byte) (s : State) : State :=
  let t := (returnAll (setMode .standby s)).reevaluate
  t.accept 0x08#8 tag (modeBody t)

/-- ResumeTilt (R27). -/
def handleResumeTilt (tag : Byte) (s : State) : State :=
  if s.ctl.inhibit then s.refuse 0x09#8 tag .refused .inhibit
  else
    let t := enterActive s
    t.accept 0x09#8 tag (modeBody t)

/-- Reset: the reply is placed, and no further request is handed on until the reset takes effect (R36). -/
def handleReset (tag : Byte) (s : State) : State :=
  let t := s.setLink { s.link with resetWaiting := true }
  t.accept 0x0A#8 tag []

/-! ## The inhibit filter -/

/-- The mode changes without a request: the mode, the recorded cause, the FOLLOWING cars and the MODE notice
(R29, R31, R126). -/
def leaveActive (m : Mode) (c : Cause) (s : State) : State :=
  ((returnAll (s.setCtl { s.ctl with mode := m, cause := c })).raise .mode noFlag).reevaluate

/-- The filter accepts the ASSERTED level (R29). -/
def acceptAsserted (s : State) : State :=
  let t := s.setCtl { s.ctl with inhibit := true, inhibitCount := 0, latch := true }
  if t.ctl.mode = .active then leaveActive .inhibited .inhibit t else t

/-- The filter accepts the RELEASED level (R30). -/
def acceptReleased (s : State) : State := s.setCtl { s.ctl with inhibit := false, inhibitCount := 0 }

/-- One sample of the inhibit filter (R28). -/
def sampleInhibit (asserted : Bool) (s : State) : State :=
  if asserted = s.ctl.inhibit then s.setCtl { s.ctl with inhibitCount := 0 }
  else if s.ctl.inhibitCount < 2 then s.setCtl { s.ctl with inhibitCount := s.ctl.inhibitCount + 1 }
  else if asserted then acceptAsserted s
  else acceptReleased s

/-- The ASSERTED level is accepted; a filter that holds it already accepts nothing (R29). -/
def inhibitAsserted (s : State) : State := if s.ctl.inhibit then s else acceptAsserted s

/-- The RELEASED level is accepted; a filter that holds it already accepts nothing (R30). -/
def inhibitReleased (s : State) : State := if s.ctl.inhibit then acceptReleased s else s

/-! ## RESET_N -/

/-- RESET_N goes low. Every activity is cut short, what waits is lost, and the part is held in reset with the
transmitter at the idle level (R35, R170). The notice of the reset is raised and the pins are taken when it ends, so
the rate code and the levels of the pairs stand (log entry 6). -/
def holdInReset (s : State) : State :=
  let t := State.afterReset s.pending
    { Pins.low with tachA := s.odo.tachoA.phase, tachB := s.odo.tachoB.phase }
  { t with inReset := true, ctl := { t.ctl with rateCode := s.ctl.rateCode },
           link := { t.link with notices := .clear } }

end Sys2Proof.Machine
end

