-- ==== Sys2Proof/Machine/CarLine.lean ====
section
/-! DEFINITION. The car line controller: halts (R162), the muster (R147 to R151), the line cycle (R152 to R161), the
echo check (R146), and its requests (R148, R164, R165). -/

namespace Sys2Proof.Machine

open Sys2Proof

/-- The exchange on the line alone changes. -/
def setExch (x : Exchange) (s : State) : State := s.setLine { s.line with exch := x }

/-- A frame of the part is sent; its echo is compared next (R146). -/
def sendFrame (f : LineFrame) (s : State) : State := setExch (.echo f) s

/-! ## The foreign-node table (R3, R143, R149, R161) -/

def Foreign.get (f : Foreign) : Nat → Option Serial
  | 13 => f.at13
  | 14 => f.at14
  | 15 => f.at15
  | _ => none

def Foreign.put (f : Foreign) (a : Nat) (x : Option Serial) : Foreign :=
  match a with
  | 13 => { f with at13 := x }
  | 14 => { f with at14 := x }
  | 15 => { f with at15 := x }
  | _ => f

/-- The highest free foreign address. -/
def Foreign.highestFree (f : Foreign) : Option Nat := [15, 14, 13].find? (fun a => (f.get a).isNone)

/-- The address at which the table holds a serial. -/
def Foreign.addressOf (f : Foreign) (x : Serial) : Option Nat := [13, 14, 15].find? (fun a => f.get a == some x)

/-- The number of entries. -/
def Foreign.count (f : Foreign) : Nat := [13, 14, 15].countP (fun a => (f.get a).isSome)

/-- Every entry that holds the serial is removed (R161, step 1). -/
def Foreign.drop (f : Foreign) (x : Serial) : Foreign :=
  { at13 := if f.at13 = some x then none else f.at13, at14 := if f.at14 = some x then none else f.at14,
    at15 := if f.at15 = some x then none else f.at15 }

def setForeign (a : Nat) (x : Option Serial) (s : State) : State :=
  s.setLine { s.line with foreign := s.line.foreign.put a x }

/-- A serial joins the parked list, unless the list is full (R149, R161). -/
def parkSerial (x : Serial) (s : State) : State :=
  if s.line.parked.length < Config.parkedCapacity then s.setLine { s.line with parked := s.line.parked ++ [x] }
  else s

/-- Whether a line address is held: a formation car's by its bound node, a foreign address by its entry. -/
def addressHeld (s : State) (a : Nat) : Bool :=
  if 1 ≤ a ∧ a ≤ 12 then isBound s (a - 1) else (s.line.foreign.get a).isSome

/-! ## The RollCall completion (R150, R151) -/

/-- bound, missing, foreign, the parked list (R191). -/
def rollCallBody (s : State) : List Byte :=
  [u8 (boundCount s), u8 (missingCount s), u8 s.line.foreign.count, u8 s.line.parked.length] ++
    s.line.parked.flatMap bytes4

/-- The RollCall of the muster in progress is completed. -/
def completeRollCall (r : ResultCode) (d : Detail) (s : State) : State :=
  match s.line.muster with
  | none => s
  | some m =>
    (s.setLine { s.line with muster := none }).complete (replyFrame 0x30#8 m.tag r d 0 (rollCallBody s))

/-! ## Halt (R162) -/

/-- The mode controller takes the report of a halt (R31). -/
def reportHalt (s : State) : State :=
  if s.ctl.mode = .active ∨ s.ctl.mode = .inhibited then leaveActive .standby .lineHalted s else s

/-- LINE_HALTED is added to a car whose node is bound (R162, step 3). -/
def haltCar (s : State) (k : Nat) : State := if isBound s k then addFault k .lineHalted s else s

/-- The line halts (R162). The echo-mismatch count becomes 0 (R146). -/
def haltLine (s : State) : State :=
  let s1 := (s.setLine { s.line with state := .halted, echoCount := 0, exch := .quiet }).reevaluate
  let s2 := (carIndexes s1).foldl haltCar s1
  ((reportHalt (completeRollCall .refused .halted (flushMaintenance s2))).raise .line flagLineHalted).reevaluate

/-- An echo that does not match is counted (R146). -/
def countMismatch (s : State) : State :=
  s.setLine { s.line with echoTotal := countUp s.line.echoTotal Config.counterMax,
                          echoCount := s.line.echoCount + 1 }

/-- The third consecutive mismatch is counted and halts a line that carries frames (R146, R162). -/
def haltCarrying (s : State) : State :=
  if s.line.state = .mustering ∨ s.line.state = .cycling then haltLine (countMismatch s) else s

/-! ## The muster -/

/-- The muster ends (R150): the line is CYCLING and the RollCall completion is placed. -/
def endMuster (overfull : Bool) (s : State) : State :=
  let s1 := (s.setLine { s.line with state := .cycling, exch := .quiet }).reevaluate
  completeRollCall .ok .none (s1.raiseIf overfull .line flagOverfull)

/-- The rounds opened so far (R150). -/
def roundsOpened (s : State) : Nat := (s.line.muster.map Muster.round).getD 0

/-- The next CLAIM is sent (R147). -/
def openRound (s : State) : State :=
  sendFrame .claim
    (s.setLine { s.line with muster := s.line.muster.map (fun m => { m with round := m.round + 1 }) })

/-- A round ends other than without a claim: the 24th ends the muster, an earlier one is followed by the next.
The flag says whether the round brought a claim or a garbled key (R150; log entry 10). -/
def endRound (drew : Bool) (s : State) : State :=
  if Config.musterRounds ≤ roundsOpened s then endMuster drew s else openRound s

/-- The answer to a winning serial (R149). -/
def answerClaim (x : Serial) (s : State) : State :=
  match carOfSerial s x with
  | some k => sendFrame (.name x (k + 1)) s
  | none =>
    match s.line.foreign.addressOf x with
    | some a => sendFrame (.name x a) s
    | none =>
      match s.line.foreign.highestFree with
      | some a => sendFrame (.name x a) s
      | none => sendFrame (.park x) s

/-- The outcome of a CLAIM round is read (R147, R149, R150). -/
def readRound (outcome : ClaimOutcome) (s : State) : State :=
  match outcome with
  | .noClaim => endMuster false s
  | .garbled => endRound true s
  | .claim x => answerClaim x s

/-- The outcome of a round that a delivered CLAIM has opened (R149). -/
def hearRound (outcome : ClaimOutcome) (s : State) : State :=
  if s.line.exch = .round then readRound outcome s else s

/-- A muster in progress ends without a claim (R150). -/
def hearMusterEnd (s : State) : State := if s.line.state = .mustering then endMuster false s else s

/-- MUSTER is sent, after the frame that a cut cycle was sending, if any (R148, step 4; log entry 8). -/
def sendMuster (s : State) : State :=
  if s.line.exch.cutOff = .cut then setExch .cut s else sendFrame .muster s

/-- The start of a muster (R148, steps 1 to 4; R124). -/
def startMuster (tag : Byte) (s : State) : State :=
  let s1 := (s.setLine { s.line with state := .mustering, echoCount := 0 }).reevaluate
  let s2 := flushMaintenance s1
  let s3 := s2.setChans (s2.chans.map Channel.toAbsent)
  let s4 := s3.setLine
    { s3.line with nodes := noNodes s3, foreign := .empty, parked := [],
                   muster := some { tag := tag, round := 0 } }
  (sendMuster s4).reevaluate

/-- The completion of a RollCall that waits to be sent (R148, check 2). -/
def isRollCallCompletion (f : Frame) : Bool := f.kind == 0xB0#8

/-- The completion of a NodeTransfer that waits to be sent (R165, check 4). -/
def isTransferCompletion (f : Frame) : Bool := f.kind == 0xB1#8

/-- RollCall (R148). An accepted one is answered when the muster ends. -/
def handleRollCall (tag : Byte) (s : State) : State :=
  if !formationExists s then s.refuse 0x30#8 tag .refused .noFormation
  else if s.line.state = .mustering ∨ s.link.completions.any isRollCallCompletion = true then
    s.refuse 0x30#8 tag .busy .none
  else if anyReturning s then s.refuse 0x30#8 tag .refused .returning
  else startMuster tag s

/-! ## The line cycle -/

/-- The snapshot of set-points, for the cars whose node is bound (R139, R153). -/
def takeSnapshot (s : State) : State :=
  s.setChans (s.chans.mapIdx (fun k c => if isBound s k then { c with sent := c.theta } else c))

/-- What the SET frame carries, in address order 1 to 15 (R153). -/
def setPoints (s : State) : List (Option Int) :=
  (List.range 15).map (fun k => if isBound s k && decide (k < 12) then (s.chans[k]?).map Channel.theta else none)

/-- A line cycle starts with the SET broadcast (R152, R153). -/
def startCycle (s : State) : State :=
  if s.line.state = .cycling ∧ s.line.exch = .quiet then sendFrame (.set (setPoints s)) (takeSnapshot s) else s

/-- The CALL window is opened (R157). -/
def openWindow (s : State) : State := sendFrame .call s

/-- The maintenance slot (R156). -/
def maintenanceSlot (s : State) : State :=
  match s.line.maint with
  | [] => openWindow s
  | t :: _ =>
    if isBound s t.car then sendFrame (.mreq (t.car + 1) t.write t.item t.value) s
    else openWindow (completeHead .carUnbound 0#16 s)

/-- The next address to be asked after address a: the bound cars in car-index order, then the foreign nodes in
address order (R154). -/
def nextAsked (s : State) (a : Nat) : Option Nat := (List.range 16).find? (fun b => decide (a < b) && addressHeld s b)

/-- The ASK phase goes on after address a, or the maintenance slot follows (R152, R154). -/
def askAfter (a : Nat) (s : State) : State :=
  match nextAsked s a with
  | some b => sendFrame (.ask b) s
  | none => maintenanceSlot s

/-- The cycle ends (R152). -/
def endCycle (s : State) : State := setExch .quiet s

/-- A good STAT of the node at the address that was asked (R154): the channel unit takes it, and the history ring
where the car is the sensing car. A foreign node's is discarded, and so is that of a node whose binding has ended since
its ASK was sent (R88, R141). -/
def goodStat (a : Nat) (angle : Int) (cond : NodeCond) (flags : NodeFlags) (accel : Option Int) (s : State) : State :=
  if a ≤ 12 ∧ isBound s (a - 1) = true then
    let k := a - 1
    let s1 := s.setLine { s.line with nodes := s.line.nodes.modify k (fun n => { n with miss := 0 }) }
    let s2 := takeStat k (clampAbs angle Config.angleLimit) cond flags s1
    if sensingCar s2 = some k then takeSample accel s2 else s2
  else s

/-- A miss of the node at the address that was asked (R154, R155). A foreign node's is counted nowhere, and a car whose
binding has ended has no node to miss. -/
def missAt (a : Nat) (s : State) : State :=
  if a ≤ 12 ∧ isBound s (a - 1) = true then
    let k := a - 1
    match s.line.nodes[k]? with
    | none => s
    | some n =>
      if 2 ≤ n.miss then loseNode k s
      else s.setLine { s.line with nodes := s.line.nodes.set k { n with miss := n.miss + 1 } }
  else s

/-- Silence or a bad reply, where a reply is awaited (R145, R154, R156, R158). -/
def noReply (s : State) : State :=
  match s.line.exch with
  | .stat a => askAfter a (missAt a s)
  | .mrsp => openWindow (completeHead .noAnswer 0#16 s)
  | .alrt _ => endCycle s
  | .quiet | .echo _ | .takeEcho _ _ | .cut | .round | .window => s

/-- A STAT whose check passes is good where an ASK awaits its address; another reply awaited makes it a bad one (R145,
R154). -/
def hearStat (address : Nat) (angle : Int) (condition : NodeCond) (flags : NodeFlags) (acceleration : Option Int)
    (s : State) : State :=
  if s.line.exch = .stat address then
    askAfter address (goodStat address angle condition flags acceleration s)
  else noReply s

/-- The node of a car is lost at its third miss; where it was the car being asked, the ASK phase goes on (R154,
R155). -/
def hearNodeLost (car : Nat) (s : State) : State :=
  if isBound s car then
    (if s.line.exch = .stat (car + 1) then askAfter (car + 1) (loseNode car s) else loseNode car s)
  else s

/-- The address whose MRSP is awaited: that of the car of the entry at the head (R156). -/
def awaitedTransfer (s : State) : Option Nat := s.line.maint.head?.map (fun t => t.car + 1)

/-- An MRSP whose check passes is good where the transfer to its address awaits one (R145, R156). -/
def hearMrsp (address : Nat) (accepted : Bool) (value : Half) (s : State) : State :=
  if s.line.exch = .mrsp ∧ awaitedTransfer s = some address then
    openWindow (completeHead (if accepted then .done else .nodeRefused) value s)
  else noReply s

/-! ## The CALL window -/

/-- A join key is answered (R160, R161). -/
def answerJoin (x : Serial) (s : State) : State :=
  match carOfSerial s x with
  | some k =>
    let t := if isBound s k then addFault k .nodeRestart (unbind k s) else s
    sendFrame (.name x (k + 1)) t
  | none =>
    let t := s.setLine { s.line with foreign := s.line.foreign.drop x }
    match t.line.foreign.highestFree with
    | some a => sendFrame (.name x a) t
    | none => sendFrame (.park x) t

/-- The winning key is read (R157). -/
def readKey (key : WindowKey) (s : State) : State :=
  match key with
  | .noCall => endCycle s
  | .garbled => endCycle s
  | .alert a => setExch (.alrt a) s
  | .join x => answerJoin x s

/-- The winning key of a window that a delivered CALL has opened (R157). -/
def hearKey (key : WindowKey) (s : State) : State := if s.line.exch = .window then readKey key s else s

/-- A good ALRT is answered with TAKE or LEAVE (R158, R159). -/
def answerAlert (a : Nat) (kind : AlertKind) (detail : Half) (s : State) : State :=
  if 1 ≤ a ∧ a ≤ 12 ∧ isBound s (a - 1) = true then
    if s.line.alerts.length < Config.alertCapacity then setExch (.takeEcho a (some (kind, detail))) s
    else sendFrame (.leave a) s
  else setExch (.takeEcho a none) s

/-- An ALRT whose check passes is good where it carries the address awaited (R158, R159). -/
def hearAlrt (address : Nat) (kind : AlertKind) (detail : Half) (s : State) : State :=
  if s.line.exch = .alrt address then answerAlert address kind detail s else noReply s

/-- The alert kinds that fail their car (R134, R158). -/
def isSevere : AlertKind → Bool
  | .actuator => true
  | .overtravel => true
  | .sensor => true
  | .pressure => false
  | .supply => false
  | .note => false

/-- An alert that has been taken is kept (R158). -/
def keepAlert (k : Nat) (kind : AlertKind) (detail : Half) (s : State) : State :=
  let s1 := s.setLine
    { s.line with alerts := s.line.alerts ++ [{ car := k, kind := kind, detail := detail, position := s.odo.pos }] }
  let s2 := s1.raiseIf s.line.alerts.isEmpty .alerts noFlag
  if isSevere kind then addFault k .alert s2 else s2

/-! ## The echo check (R146) -/

/-- A NAME of a join has been delivered (R160, R161). -/
def nodeJoined (x : Serial) (a : Nat) (s : State) : State :=
  if a ≤ 12 then (bindCar (a - 1) x s).raise .line flagJoined
  else (setForeign a (some x) s).raise .line flagForeign

/-- A NAME of the muster has been delivered; a car already bound in this muster keeps its binding (R149). -/
def nodeNamed (x : Serial) (a : Nat) (s : State) : State :=
  if a ≤ 12 then (if isBound s (a - 1) then s else bindCar (a - 1) x s) else setForeign a (some x) s

/-- The frame has been delivered: its exchange goes on. -/
def delivered (f : LineFrame) (s : State) : State :=
  match f with
  | .muster => openRound s
  | .claim => setExch .round s
  | .name x a => if s.line.state = .mustering then endRound true (nodeNamed x a s) else endCycle (nodeJoined x a s)
  | .park x =>
    if s.line.state = .mustering then endRound true (parkSerial x s)
    else endCycle ((parkSerial x s).raise .line flagForeign)
  | .set _ => askAfter 0 s
  | .ask a => setExch (.stat a) s
  | .mreq .. => setExch .mrsp s
  | .call => setExch .window s
  | .leave _ => endCycle s

/-- The frame has not been delivered: its exchange ends, and the muster or the cycle continues (R146). -/
def undelivered (f : LineFrame) (s : State) : State :=
  match f with
  | .muster => openRound s
  | .claim => endRound false s
  | .name _ _ => if s.line.state = .mustering then endRound true s else endCycle s
  | .park _ => if s.line.state = .mustering then endRound true s else endCycle s
  | .set _ => askAfter 0 s
  | .ask a => askAfter a s
  | .mreq .. => openWindow s
  | .call => endCycle s
  | .leave _ => endCycle s

/-- What follows a frame whose cycle was cut off: MUSTER where a muster waits for it, else nothing (R6, R148). -/
def resumeCut (s : State) : State := if s.line.state = .mustering then sendFrame .muster s else setExch .quiet s

/-- The echo of a frame has matched (R146). -/
def echoMatched (s : State) : State :=
  let t := s.setLine { s.line with echoCount := 0 }
  match s.line.exch with
  | .echo f => delivered f t
  | .takeEcho a (some (kind, detail)) => endCycle (keepAlert (a - 1) kind detail t)
  | .takeEcho _ none => endCycle t
  | .cut => resumeCut t
  | .quiet | .round | .stat _ | .mrsp | .window | .alrt _ => s

/-- The echo of a frame has not matched; the third in a row halts the line (R146, R162). -/
def echoMismatched (s : State) : State :=
  let t := countMismatch s
  match s.line.exch with
  | .echo f => if 3 ≤ t.line.echoCount then haltLine t else undelivered f t
  | .takeEcho _ _ => if 3 ≤ t.line.echoCount then haltLine t else endCycle t
  | .cut => if 3 ≤ t.line.echoCount then haltLine t else resumeCut t
  | .quiet | .round | .stat _ | .mrsp | .window | .alrt _ => s

/-- The echo of the frame the part has sent is compared (R146). -/
def hearEcho (isMatch : Bool) (s : State) : State := if isMatch then echoMatched s else echoMismatched s

/-! ## Requests -/

/-- The eight bytes of an alert record (R191). -/
def alertBytes (a : Alert) : List Byte := [u8 a.car, alertCode a.kind] ++ bytes2 a.detail ++ i32 a.position

/-- ReadAlerts (R164). -/
def handleReadAlerts (tag : Byte) (s : State) : State :=
  (s.setLine { s.line with alerts := [] }).accept 0x32#8 tag
    ([u8 s.line.alerts.length] ++ reserved 3 ++ s.line.alerts.flatMap alertBytes)

/-- NodeTransfers accepted whose completion has not been sent (R165, R166; log entry 16). -/
def transfersOutstanding (s : State) : Nat := s.line.maint.length + s.link.completions.countP isTransferCompletion

/-- NodeTransfer (R165). An accepted one is answered when its entry is completed. -/
def handleNodeTransfer (tag car direction item : Byte) (value : Half) (s : State) : State :=
  let k := car.toNat
  if s.cars.length ≤ k ∨ 1 < direction.toNat ∨ (direction = 0#8 ∧ value ≠ 0#16) then
    s.refuse 0x31#8 tag .badValue .none
  else if s.line.state ≠ .cycling then s.refuse 0x31#8 tag .refused .line
  else if !isBound s k then s.refuse 0x31#8 tag .refused .unbound
  else if Config.transferCapacity ≤ transfersOutstanding s then s.refuse 0x31#8 tag .full .none
  else
    s.setLine
      { s.line with
        maint := s.line.maint ++ [{ car := k, write := direction == 1#8, item := item, value := value, tag := tag }] }

end Sys2Proof.Machine
end

