-- ==== Sys2Proof/Machine/Operands.lean ====
section
/-! DEFINITION. What the fields of a request mean: the range checks on car records (R5), segment records
(R69) and parameters (R10), and the records the store holds for them; and how held records are sent again. -/

namespace Sys2Proof.Machine

open Sys2Proof

/-! ## Car records (R1, R5) -/

/-- The record the formation table holds for an accepted car record. -/
def carOfWire (w : CarWire) : Car :=
  { node := if w.tilting = 1#8 then some { serial := w.serial, lead := w.lead.toNat } else none,
    front := w.front.toNat, rear := w.rear.toNat, sensing := w.sensing = 1#8 }

/-- Check RANGE of R5 on one record. -/
def recordOutOfRange (w : CarWire) : Bool :=
  decide (1 < w.tilting.toNat) || decide (1 < w.sensing.toNat) || decide (40000 < w.front.toNat) ||
    decide (w.rear.toNat < w.front.toNat + 1) || decide (w.front.toNat + 3000 < w.rear.toNat) ||
    (w.tilting == 1#8 && decide (1000 < w.lead.toNat)) ||
    (w.tilting == 0#8 && (w.serial != 0#32 || w.lead != 0#16))

/-- The first place of a list at which the test holds, given the place and the entry. -/
def firstAt (test : Nat → CarWire → Bool) (records : List CarWire) : Option Nat :=
  (List.range records.length).find? (fun i => ((records[i]?).map (test i)).getD false)

/-- The offsets of car k fall below those of the car before it (R5, check ORDER). -/
def orderFails (records : List CarWire) (k : Nat) (w : CarWire) : Bool :=
  if k = 0 then false
  else ((records[k - 1]?).map (fun p =>
    decide (w.front.toNat < p.front.toNat) || decide (w.rear.toNat < p.rear.toNat))).getD false

/-- Car k is a sensing car that does not tilt, or a second sensing car (R5, check SENSING). -/
def sensingFails (records : List CarWire) (k : Nat) (w : CarWire) : Bool :=
  w.sensing == 1#8 && (w.tilting == 0#8 || (records.take k).any (fun p => p.sensing == 1#8))

/-- Tilting car k repeats the serial of a tilting car before it (R5, check SERIAL). -/
def serialFails (records : List CarWire) (k : Nat) (w : CarWire) : Bool :=
  w.tilting == 1#8 && (records.take k).any (fun p => p.tilting == 1#8 && p.serial == w.serial)

/-- The checks of R5 in the order of its table: the failing check and the number that R189 sends as its car index, or
none. That number is the record's position. At check INDEX, where the record carries another, the manual does not say
which of the two is sent: DESIGN CHOICE (log entry 17). -/
def formationFault (count : Nat) (records : List CarWire) : Option (Detail × Nat) :=
  if count = 0 ∨ Config.carCapacity < count then some (.count, 0)
  else
    ((firstAt (fun i w => w.index.toNat != i) records).map (fun i => (Detail.index, i))).orElse fun _ =>
    ((firstAt (fun _ w => recordOutOfRange w) records).map (fun i => (Detail.range, i))).orElse fun _ =>
    ((firstAt (fun i w => i == 0 && w.front != 0#16) records).map (fun i => (Detail.firstBogie, i))).orElse fun _ =>
    ((firstAt (orderFails records) records).map (fun i => (Detail.order, i))).orElse fun _ =>
    ((firstAt (sensingFails records) records).map (fun i => (Detail.sensing, i))).orElse fun _ =>
    (firstAt (serialFails records) records).map (fun i => (Detail.serial, i))

/-- The sixteen bytes of a held car record (R191). -/
def heldCarBytes (k : Nat) (c : Car) : List Byte :=
  [u8 k, yesNo c.tilting, yesNo c.sensing, 0#8] ++ bytes4 ((c.node.map CarNode.serial).getD 0#32) ++
    u16 c.front ++ u16 c.rear ++ u16 ((c.node.map CarNode.lead).getD 0) ++ reserved 2

/-! ## Segment records (R62, R69) -/

/-- A tilt cap as its two bytes carry it: 0xFFFF is absent (R187). -/
def capOf (h : Half) : Option Int := if h = 0xFFFF#16 then none else some (h.toNat : Int)

/-- The record the store holds for a segment record. -/
def segmentOfWire (w : SegmentWire) : Segment :=
  { start := w.start.toInt, length := w.length.toNat, curveStart := w.curveStart.toInt,
    curveStop := w.curveStop.toInt, cantStart := w.cantStart.toInt, cantStop := w.cantStop.toInt,
    cap := capOf w.cap }

/-- The number of the first field out of its range (R62, R69, R189), or none. -/
def badField (w : SegmentWire) : Option Nat :=
  let g := segmentOfWire w
  if !inRoute g.start then some 1
  else if g.length < 100 ∨ 500000 < g.length then some 2
  else if 20000 < g.curveStart.natAbs then some 3
  else if 20000 < g.curveStop.natAbs then some 4
  else if 200 < g.cantStart.natAbs then some 5
  else if 200 < g.cantStop.natAbs then some 6
  else if 10000 < g.cap.getD 0 then some 7
  else none

/-- The first record with a field out of range, with its place and the field's number. -/
def segmentsFault : Nat → List SegmentWire → Option (Nat × Nat)
  | _, [] => none
  | i, w :: rest =>
    match badField w with
    | some f => some (i, f)
    | none => segmentsFault (i + 1) rest

/-! ## Parameters (R9, R10) -/

/-- The fixed ranges of the 28 parameters, in field-number order; for the first pass the range of uResume is 0 to
20,000 and that of lookHigh 10,000 to 2,000,000. Two-valued parameters are 0 or 1 (R10, R190). -/
def paramRanges : List (Nat × Nat) :=
  [(1000, 1800), (0, 1000), (0, 1000), (0, 10000), (500, 20000), (1000, 100000), (500, 10000), (0, 3000),
   (100, 20000), (0, 20000), (0, 1000), (1, 50), (10, 200), (2000, 3500), (2000, 3500), (20, 1000),
   (20, 1000), (100, 5000), (0, 1), (0, 50000), (10000, 2000000), (10000, 2000000), (0, 100000),
   (10000, 1000000), (500, 10000), (3, 200), (50, 2000), (0, 1)]

/-- The number of the first field that lies outside its range, counting from `i`. -/
def firstOutside : Nat → List Nat → List (Nat × Nat) → Option Nat
  | i, x :: xs, (lo, hi) :: rs => if x < lo ∨ hi < x then some i else firstOutside (i + 1) xs rs
  | _, _, _ => none

/-- The parameter set that the 28 values of a request stand for. -/
def paramsOf (v : Vector Word 28) : Params :=
  { trackBase := v[0].toNat, compPredictive := v[1].toNat, compReactive := v[2].toNat,
    thetaMax := v[3].toNat, rateMax := v[4].toNat, accelMax := v[5].toNat, adjacentMax := v[6].toNat,
    speedMin := v[7].toNat, uMax := v[8].toNat, uResume := v[9].toNat, fixAccuracy := v[10].toNat,
    drift := v[11].toNat, slideTolerance := v[12].toNat, circumferenceA := v[13].toNat,
    circumferenceB := v[14].toNat, pulsesPerRevA := v[15].toNat, pulsesPerRevB := v[16].toNat,
    reactiveWindow := v[17].toNat, reactiveEnable := v[18] = 1#32, releaseMargin := v[19].toNat,
    lookLow := v[20].toNat, lookHigh := v[21].toNat, truncateGuard := v[22].toNat,
    captureExpiry := v[23].toNat, trackBand := v[24].toNat, trackLimit := v[25].toNat,
    centreBand := v[26].toNat, faultPolicy := if v[27] = 1#32 then .isolated else .whole }

/-- The two passes of R10: the number of the failing field, or none. -/
def paramsFault (v : Vector Word 28) : Option Nat :=
  match firstOutside 1 (v.toList.map BitVec.toNat) paramRanges with
  | some i => some i
  | none =>
    let p := paramsOf v
    if p.uResume < p.fixAccuracy ∨ p.uMax < p.uResume then some 10
    else if p.lookHigh ≤ p.lookLow then some 22
    else none

/-- The 28 parameters in force, in field-number order (R15). -/
def paramList (p : Params) : List Nat :=
  [p.trackBase, p.compPredictive, p.compReactive, p.thetaMax, p.rateMax, p.accelMax, p.adjacentMax,
   p.speedMin, p.uMax, p.uResume, p.fixAccuracy, p.drift, p.slideTolerance, p.circumferenceA,
   p.circumferenceB, p.pulsesPerRevA, p.pulsesPerRevB, p.reactiveWindow, if p.reactiveEnable then 1 else 0,
   p.releaseMargin, p.lookLow, p.lookHigh, p.truncateGuard, p.captureExpiry, p.trackBand, p.trackLimit,
   p.centreBand, match p.faultPolicy with | .whole => 0 | .isolated => 1]

/-- The derived constants as replies carry them: sMax, dStep, pulse distances A and B (R191). -/
def derivedBytes (p : Params) : List Byte :=
  u16 p.sMax ++ u16 p.dStep ++ u32 (p.pulseDistance .a).toNat ++ u32 (p.pulseDistance .b).toNat

end Sys2Proof.Machine
end

