-- ==== Sys2Proof/Machine/Geometry.lean ====
section
/-! DEFINITION. The route geometry store: coverage and interpolation (R63, R65), batches (R67 to R72), release
(R74), truncation (R76 to R78), the look-ahead (R80, R81) and the query (R83). -/

namespace Sys2Proof.Machine

open Sys2Proof

/-! ## Segments (R62, R63) -/

/-- The segment's end: start + length. -/
def Segment.stop (g : Segment) : Int := g.start + g.length

/-- Whether the segment covers a position. -/
def Segment.covers (g : Segment) (p : Int) : Bool := decide (g.start ≤ p ∧ p < g.stop)

/-- Linear interpolation of a value between the segment's start and its end. -/
def Segment.value (g : Segment) (first last p : Int) : Int :=
  first + rounded ((last - first) * (p - g.start)) g.length

def Segment.curve (g : Segment) (p : Int) : Int := g.value g.curveStart g.curveStop p

def Segment.cant (g : Segment) (p : Int) : Int := g.value g.cantStart g.cantStop p

/-! ## The committed list (R64, R65) -/

/-- The start of the oldest record, absent while the list is empty. -/
def GeoStore.firstStart (g : GeoStore) : Option Int := g.committed.head?.map Segment.start

/-- The end of the newest record, absent while the list is empty. -/
def GeoStore.committedEnd (g : GeoStore) : Option Int := g.committed.getLast?.map Segment.stop

def GeoStore.freeCount (g : GeoStore) : Nat := Config.committedCapacity - g.committed.length

/-- The segment that covers a position, or none where the position is not covered (R65). -/
def GeoStore.at (g : GeoStore) (p : Int) : Option Segment := g.committed.find? (fun x => x.covers p)

/-- The look-ahead L, in cm (R80). -/
def lookAhead (s : State) : Int :=
  match s.geo.committedEnd with
  | some e => e - s.odo.pos
  | none => 0

/-- The store evaluates the look-ahead (R81). -/
def evaluateLookAhead (s : State) : State :=
  if s.geo.armed then
    if lookAhead s < s.params.lookLow then (s.setGeo { s.geo with armed := false }).raise .geometry flagLookLow
    else s
  else if (s.params.lookHigh : Int) < lookAhead s then s.setGeo { s.geo with armed := true }
  else s

/-- The release test behind the tail, then the look-ahead (R74). -/
def releaseSegments (s : State) : State :=
  let line := s.odo.pos - tailOffset s - s.params.releaseMargin
  evaluateLookAhead
    (s.setGeo { s.geo with committed := s.geo.committed.dropWhile (fun g => decide (g.stop ≤ line)) })

/-! ## Batches -/

/-- The number of staged records. -/
def GeoStore.stagedCount (g : GeoStore) : Nat := ((g.batch.map (fun b => b.staged.length)).getD 0)

/-- OpenBatch (R68). -/
def handleOpenBatch (tag : Byte) (declared : Word) (s : State) : State :=
  if inRoute declared.toInt then
    let t := s.setGeo { s.geo with batch := some { declared := declared.toInt, staged := [] } }
    t.accept 0x20#8 tag ([yesNo s.geo.batch.isSome, u8 s.geo.stagedCount] ++ reserved 2)
  else s.refuse 0x20#8 tag .badValue .none

/-- AddSegments (R69). -/
def handleAddSegments (tag count : Byte) (records : List SegmentWire) (s : State) : State :=
  match s.geo.batch with
  | none => s.refuse 0x21#8 tag .refused .noBatch
  | some b =>
    if count.toNat = 0 ∨ Config.segmentsPerRequest < count.toNat then s.refuse 0x21#8 tag .badValue .none
    else
      match segmentsFault 0 records with
      | some (i, f) => s.refuseAt 0x21#8 tag .badValue .field (i + 256 * f)
      | none =>
        if Config.stagedCapacity < b.staged.length + records.length then s.refuse 0x21#8 tag .full .none
        else
          let staged := b.staged ++ records.map segmentOfWire
          let t := s.setGeo { s.geo with batch := some { b with staged := staged } }
          t.accept 0x21#8 tag ([u8 staged.length] ++ reserved 3)

/-- Each record begins where its predecessor ends (R64, R70). -/
def joined : List Segment → Bool
  | g :: h :: rest => h.start == g.stop && joined (h :: rest)
  | _ => true

/-- The first of the checks COUNT to CAPACITY of R70 that fails, or none. -/
def batchFault (count : Nat) (b : Batch) (g : GeoStore) : Option Detail :=
  if count ≠ b.staged.length then some .count
  else if (b.staged.head?.map Segment.start) ≠ some b.declared then some .start
  else if g.committedEnd ≠ none ∧ g.committedEnd ≠ some b.declared then some .gap
  else if !joined b.staged then some .order
  else if Config.committedCapacity < g.committed.length + b.staged.length then some .capacity
  else none

/-- CloseBatch (R70, R71, R72). -/
def handleCloseBatch (tag count : Byte) (s : State) : State :=
  match s.geo.batch with
  | none => s.refuse 0x22#8 tag .refused .noBatch
  | some b =>
    match batchFault count.toNat b s.geo with
    | some d =>
      (s.setGeo { s.geo with batch := none }).respond
        (replyFrame 0x22#8 tag .refused d 0 ([u8 b.staged.length] ++ reserved 3))
    | none =>
      let t := evaluateLookAhead
        (s.setGeo { s.geo with committed := s.geo.committed ++ b.staged, batch := none })
      t.accept 0x22#8 tag
        ([u8 b.staged.length, 0#8] ++ u16 t.geo.freeCount ++ i32 (t.geo.committedEnd.getD 0))

/-! ## Truncation -/

/-- The protected limit (R76). -/
def protectedLimit (s : State) : Int :=
  s.odo.pos + ((s.odo.v * largestLead s / 1000 : Nat) : Int) + s.params.truncateGuard

/-- A record that contains X is shortened to end at X; its values at X are those it had there (R78). -/
def Segment.cutAt (g : Segment) (x : Int) : Segment :=
  if x < g.stop then { g with length := x - g.start, curveStop := g.curve x, cantStop := g.cant x } else g

/-- The committed list cut at X (R78). -/
def cutList (x : Int) (l : List Segment) : List Segment :=
  (l.filter (fun g => decide (g.start < x))).map (fun g => g.cutAt x)

/-- TruncateGeometry (R77, R78). -/
def handleTruncate (tag : Byte) (xw : Word) (s : State) : State :=
  let x := xw.toInt
  if !inRoute x then s.refuse 0x23#8 tag .badValue .none
  else if s.geo.batch.isSome then s.refuse 0x23#8 tag .busy .none
  else if x < protectedLimit s then
    s.respond (replyFrame 0x23#8 tag .refused .protectedZone 0 (i32 (protectedLimit s)))
  else
    let removed := s.geo.committed.countP (fun g => decide (x ≤ g.start))
    let shortened := s.geo.committed.any (fun g => decide (g.start < x ∧ x < g.stop))
    let t := evaluateLookAhead (s.setGeo { s.geo with committed := cutList x s.geo.committed })
    t.accept 0x23#8 tag
      (u16 removed ++ [yesNo shortened, yesNo t.geo.committedEnd.isSome] ++ i32 (t.geo.committedEnd.getD 0) ++
        u16 t.geo.freeCount ++ reserved 2)

/-- QueryGeometry (R83). -/
def handleQueryGeometry (tag : Byte) (s : State) : State :=
  s.accept 0x24#8 tag
    ([yesNo s.geo.firstStart.isSome, yesNo s.geo.committedEnd.isSome, yesNo s.geo.batch.isSome,
      yesNo s.geo.batch.isSome] ++ u16 s.geo.committed.length ++ u16 s.geo.freeCount ++
      [u8 s.geo.stagedCount, yesNo s.geo.armed] ++ reserved 2 ++ i32 (s.geo.firstStart.getD 0) ++
      i32 (s.geo.committedEnd.getD 0) ++ i32 ((s.geo.batch.map Batch.declared).getD 0) ++ i32 (lookAhead s))

end Sys2Proof.Machine
end

