-- ==== Sys2Proof/Machine/Odometry.lean ====
section
/-! DEFINITION. The odometer: pulse decoding (R37), the odometry slot (R39 to R45, R48, R53), the marker filter
and the captures (R49 to R52), the resolution of a capture (R54 to R56) and the query (R58). -/

namespace Sys2Proof.Machine

open Sys2Proof

def Odometer.tacho (o : Odometer) : TachoName → Tacho
  | .a => o.tachoA
  | .b => o.tachoB

def Odometer.setTacho (o : Odometer) (n : TachoName) (t : Tacho) : Odometer :=
  match n with
  | .a => { o with tachoA := t }
  | .b => { o with tachoB := t }

/-- The other channel. -/
def otherTacho : TachoName → TachoName
  | .a => .b
  | .b => .a

/-! ## Pulses (R37) -/

/-- The levels that follow a pair's levels while line 1 leads line 2: low low, high low, high high, low high, and again
(R37). -/
def nextPair (p : Pair) : Pair := { line1 := !p.line2, line2 := p.line1 }

/-- The quarter of a cycle that a change of levels makes: forward, back, or none. A change of both lines at once makes
none (R37). -/
def quarterOf (old new : Pair) : Int := if new = nextPair old then 1 else if old = nextPair new then -1 else 0

/-- The pulse decoder sees its pair at the levels given (R37; log entry 5): four quarters in one sense, less those taken
back, are a full cycle and count. -/
def Tacho.decode (levels : Pair) (t : Tacho) : Tacho :=
  let q := t.quarters + quarterOf t.phase levels
  if 4 ≤ q then { t with phase := levels, quarters := 0, increment := t.increment + 1 }
  else if q ≤ -4 then { t with phase := levels, quarters := 0, increment := t.increment - 1 }
  else { t with phase := levels, quarters := q }

/-- The pulse decoder of a channel acts (R37). -/
def decodePulse (n : TachoName) (levels : Pair) (s : State) : State :=
  s.setOdo (s.odo.setTacho n ((s.odo.tacho n).decode levels))

/-! ## The odometry slot -/

/-- A new entry replaces the oldest of a window (R39, R45). -/
def enterWindow (d : Int) (w : List Int) : List Int := w.drop 1 ++ [d]

/-- The measurement of one channel at a slot (R39). -/
def Tacho.measure (t : Tacho) (distance : Int) : Tacho :=
  { t with increment := 0, window := enterWindow distance t.window,
           silent := if t.increment = 0 then countUp t.silent Config.silentLimit else 0 }

/-- The failure test of a channel (R40): GOOD, silent for 100 slots, the other channel at speed. -/
def mustFail (o : Odometer) (n : TachoName) : Bool :=
  !(o.tacho n).failed && (o.tacho n).silent == Config.silentLimit &&
    decide (Config.failureSpeed ≤ (o.tacho (otherTacho n)).speed)

/-- The failure test of R40 on one channel, with its notice. -/
def failTacho (n : TachoName) (s : State) : State :=
  if mustFail s.odo n then
    (s.setOdo (s.odo.setTacho n { s.odo.tacho n with failed := true })).raise .position flagTachoFailed
  else s

/-- The agreement test of R42, compared exactly. -/
def tachosAgree (p : Params) (dA dB : Int) : Bool :=
  decide (((dA - dB).natAbs : Int) * 1000 ≤
    ((max dA.natAbs dB.natAbs : Nat) : Int) * p.slideTolerance +
      max (p.pulseDistance .a) (p.pulseDistance .b) * 1000)

/-- The raw distance of smaller magnitude; 0 where the magnitudes are equal (R42). -/
def slideDistance (dA dB : Int) : Int :=
  if dA.natAbs < dB.natAbs then dA else if dB.natAbs < dA.natAbs then dB else 0

/-- What R41 chooses at a slot: the slot distance, the growth of u before its ceiling, absent where u is set to
its ceiling, and whether the slot is a slide. -/
structure SlotChoice where
  distance : Int
  growth   : Option Nat
  slide    : Bool
  deriving DecidableEq, Repr

/-- The choice of R41 by the channel states after the failure test, with the growths of R44. -/
def chooseSlot (o : Odometer) (p : Params) (dA dB : Int) : SlotChoice :=
  match o.tachoA.failed, o.tachoB.failed with
  | false, false =>
    if tachosAgree p dA dB then
      let d := truncated (dA + dB) 2
      { distance := d, growth := some (d.natAbs * p.drift / 1000), slide := false }
    else
      let d := slideDistance dA dB
      { distance := d, growth := some ((dA - dB).natAbs + d.natAbs * p.drift / 1000), slide := true }
  | false, true => { distance := dA, growth := some (dA.natAbs * 2 * p.drift / 1000), slide := false }
  | true, false => { distance := dB, growth := some (dB.natAbs * 2 * p.drift / 1000), slide := false }
  | true, true => { distance := 0, growth := none, slide := false }

/-- The slot distance enters the speed window, which the both-FAILED case first clears (R41, R45). -/
def enterSpeed (c : SlotChoice) (o : Odometer) : Odometer :=
  { o with window := match c.growth with
      | some _ => enterWindow c.distance o.window
      | none => List.replicate Config.windowLength 0 }

/-- A slot distance is added to the position (R43). -/
def advance (d : Int) (o : Odometer) : Odometer :=
  let t := o.pos * 10000 + o.rho + d
  let p := t / 10000
  if Config.posMax < p then { o with pos := Config.posMax, rho := 0 }
  else if p < Config.posMin then { o with pos := Config.posMin, rho := 0 }
  else { o with pos := p, rho := t - p * 10000 }

/-- The uncertainty grows, up to its ceiling (R44). -/
def growU (growth : Option Nat) (o : Odometer) : Odometer :=
  { o with u := match growth with
      | some g => min Config.uCeiling (o.u + g)
      | none => Config.uCeiling }

/-- Trust after a change of u (R48). -/
def nextTrust (p : Params) (o : Odometer) : Bool :=
  if o.trust then decide (o.uCm ≤ p.uMax) else decide (o.uCm ≤ p.uResume)

/-- The odometer re-evaluates trust (R48). -/
def evaluateTrust (s : State) : State :=
  let t := nextTrust s.params s.odo
  (s.setOdo { s.odo with trust := t }).raiseIf (t != s.odo.trust) .position flagTrustChanged

/-- A capture more than captureExpiry behind P (R53). -/
def isExpired (s : State) (c : Capture) : Bool :=
  decide ((s.params.captureExpiry : Int) < s.odo.pos - c.position)

/-- The capture expiry check (R53). -/
def expireCaptures (s : State) : State :=
  (s.setOdo { s.odo with captures := s.odo.captures.filter (fun c => !isExpired s c) }).raiseIf
    (s.odo.captures.any (isExpired s)) .position flagCaptureExpired

/-- What a slot does during a run once the slot distance is chosen: position, uncertainty, the slide's notice,
trust, capture expiry, then release, look-ahead and trim (R42 to R44, R48, R53, R74, R90). -/
def slotInRun (c : SlotChoice) (s : State) : State :=
  let s1 := s.setOdo (growU c.growth (advance c.distance s.odo))
  let s2 := s1.raiseIf c.slide .position flagSlide
  trimRing (releaseSegments (expireCaptures (evaluateTrust s2)))

/-- The odometry slot (R39 to R45). -/
def takeSlot (s : State) : State :=
  let dA := s.odo.tachoA.increment * s.params.pulseDistance .a
  let dB := s.odo.tachoB.increment * s.params.pulseDistance .b
  let s1 := s.setOdo { s.odo with tachoA := s.odo.tachoA.measure dA, tachoB := s.odo.tachoB.measure dB }
  let s2 := failTacho .b (failTacho .a s1)
  let c := chooseSlot s2.odo s2.params dA dB
  let s3 := s2.setOdo (enterSpeed c s2.odo)
  if s3.ctl.run then slotInRun c s3 else s3

/-! ## The marker filter and the captures -/

/-- A capture is appended at the tail of the list (R50, R51). -/
def appendCapture (n : Nat) (s : State) : State :=
  let full := decide (Config.captureCapacity ≤ s.odo.captures.length)
  let kept := if full then s.odo.captures.drop 1 else s.odo.captures
  let s1 := s.setOdo
    { s.odo with captures := kept ++ [{ number := n, position := s.odo.pos, speed := s.odo.v }],
                 nextNumber := if n < Config.captureLast then some (n + 1) else none }
  (s1.raiseIf full .position flagCaptureDropped).raise .position flagCaptured

/-- The effect of an accepted rising edge (R50, R51, R52). -/
def captureEdge (s : State) : State :=
  if s.ctl.run then
    match s.odo.nextNumber with
    | some n => appendCapture n s
    | none => s.raise .position flagCaptureRefused
  else s

/-- The filter accepts the HIGH level (R49, R50). -/
def acceptHigh (s : State) : State := captureEdge (s.setOdo { s.odo with marker := true, markerCount := 0 })

/-- One sample of the marker filter (R49). -/
def sampleMarker (high : Bool) (s : State) : State :=
  if high = s.odo.marker then s.setOdo { s.odo with markerCount := 0 }
  else if s.odo.markerCount < 2 then s.setOdo { s.odo with markerCount := s.odo.markerCount + 1 }
  else if high then acceptHigh s
  else s.setOdo { s.odo with marker := false, markerCount := 0 }

/-- The rising edge is accepted; a filter that holds HIGH already has none to accept (R50). -/
def markerRises (s : State) : State := if s.odo.marker then s else acceptHigh s

/-! ## Resolving a capture -/

/-- P after a correction; ρ is kept unless P saturates (R55, step 2). -/
def correctPosition (d : Int) (o : Odometer) : Odometer :=
  let p := o.pos + d
  if p < Config.posMin then { o with pos := Config.posMin, rho := 0 }
  else if Config.posMax < p then { o with pos := Config.posMax, rho := 0 }
  else { o with pos := p }

/-- The captures a fix of capture n leaves: the later ones, shifted (R55, steps 3 to 5). -/
def correctCaptures (n : Nat) (d : Int) (l : List Capture) : List Capture :=
  (l.filter (fun c => decide (n < c.number))).map (fun c => { c with position := saturatePos (c.position + d) })

/-- The correction lies outside the error the part had declared possible (R56). -/
def largeCorrection (d : Int) (s : State) : Bool := decide (s.odo.uCm + s.params.fixAccuracy < d.natAbs)

/-- A fix of capture n by δ (R55, R56), then the look-ahead (R81). -/
def applyFix (n : Nat) (d : Int) (s : State) : State :=
  let s1 := s.raiseIf (largeCorrection d s) .position flagLargeCorrection
  let o := correctPosition d s1.odo
  let s2 := s1.setOdo
    { o with captures := correctCaptures n d o.captures, u := s1.params.fixAccuracy * 10000 }
  evaluateLookAhead (evaluateTrust (s2.setRing (shiftRing d s2.ring)))

/-- ResolveCapture (R54, R55, R56). -/
def handleResolveCapture (tag : Byte) (number : Half) (xw : Word) (s : State) : State :=
  let n := number.toNat
  let x := xw.toInt
  if n = 0 ∨ inRoute x = false then s.refuse 0x18#8 tag .badValue .none
  else
    match s.odo.captures.find? (fun c => c.number == n) with
    | some c =>
      let d := x - c.position
      let t := applyFix n d s
      let superseded := s.odo.captures.countP (fun c => decide (c.number < n))
      t.accept 0x18#8 tag
        (i32 d ++ i32 t.odo.pos ++ u32 t.odo.uCm ++ [yesNo t.odo.trust, u8 superseded] ++ reserved 2)
    | none =>
      match s.odo.nextNumber with
      | some next => if n < next then s.refuse 0x18#8 tag .stale .none else s.refuse 0x18#8 tag .notFound .none
      | none => s.refuse 0x18#8 tag .stale .none

/-- The eight bytes of a capture item (R191). -/
def captureBytes (c : Capture) : List Byte := u16 c.number ++ u16 c.speed ++ i32 c.position

/-- A channel record as QueryPosition sends it (R58, R191). -/
def tachoBytes (t : Tacho) (pulseDistance : Int) : List Byte :=
  [yesNo t.failed, u8 t.silent] ++ u16 t.speed ++ u32 pulseDistance.toNat

/-- QueryPosition (R58); an exhausted next capture number is sent as 0 (R187). -/
def handleQueryPosition (tag : Byte) (s : State) : State :=
  s.accept 0x19#8 tag
    ([yesNo s.ctl.run, yesNo s.odo.trust] ++ u16 (s.odo.nextNumber.getD 0) ++ i32 s.odo.pos ++
      u16 s.odo.rho.toNat ++ u16 s.odo.v ++ u32 s.odo.uCm ++
      tachoBytes s.odo.tachoA (s.params.pulseDistance .a) ++ tachoBytes s.odo.tachoB (s.params.pulseDistance .b) ++
      [u8 s.odo.captures.length] ++ reserved 3 ++ s.odo.captures.flatMap captureBytes)

end Sys2Proof.Machine
end

