-- ==== Sys2Proof/Machine/Store.lean ====
section
/-! DEFINITION. The formation and parameter store: SetFormation and GetFormation (R4 to R8), SetParameters
and GetParameters (R10 to R15). -/

namespace Sys2Proof.Machine

open Sys2Proof

/-- The channel record of a car of a new formation (R121). -/
def Channel.ofCar (c : Car) : Channel :=
  { state := if c.tilting then .absent else .notFitted, theta := 0, step := 0, sent := 0, angle := none,
    cond := none, flags := noNodeFlags, trackCount := 0, faults := .empty, firstFault := none,
    unreported := false }

/-- The planner record of a car of a new formation (R100). -/
def PlanRecord.fresh : PlanRecord :=
  { target := 0, source := .none, front := none, rear := none, fallback := false }

/-- The new table is handed to its readers (R6, R100, R117, R142, R143): channel and planner records are made
anew, bindings end, the maintenance queue is flushed, the line stops and CENTRE_OK is re-evaluated. -/
def loadFormation (cars : List Car) (s : State) : State :=
  let s1 := (flushMaintenance s).setCars cars
  let s2 := s1.setChans (cars.map Channel.ofCar)
  let s3 := s2.setPlan { s2.plan with records := cars.map (fun _ => PlanRecord.fresh), exhausted := false }
  let s4 := s3.setLine
    { s3.line with state := .off, nodes := noNodes s3, foreign := .empty, echoCount := 0,
                   exch := s3.line.exch.cutOff }
  s4.reevaluate

/-- SetFormation (R4, R5, R6). -/
def handleSetFormation (tag count : Byte) (records : List CarWire) (s : State) : State :=
  if s.line.state = .mustering then s.refuse 0x12#8 tag .busy .none
  else
    match formationFault count.toNat records with
    | some (d, k) => s.refuseAt 0x12#8 tag .badValue d k
    | none => (loadFormation (records.map carOfWire) s).accept 0x12#8 tag []

/-- The car records of a reply, from car index k on. -/
def carRecordBytes : Nat → List Car → List Byte
  | _, [] => []
  | k, c :: rest => heldCarBytes k c ++ carRecordBytes (k + 1) rest

/-- GetFormation (R7). -/
def handleGetFormation (tag : Byte) (s : State) : State :=
  s.accept 0x13#8 tag
    ([u8 s.cars.length, ((sensingCar s).map u8).getD 0xFF#8] ++ reserved 2 ++ i32 (tailOffset s) ++
      u16 (largestLead s) ++ reserved 2 ++ carRecordBytes 0 s.cars)

/-- SetParameters (R10, R11, R14): an accepted set replaces all 28 at once; CENTRE_OK is re-evaluated where
centreBand changes. -/
def handleSetParameters (tag : Byte) (values : Vector Word 28) (s : State) : State :=
  match paramsFault values with
  | some field => s.refuseAt 0x10#8 tag .badValue .field field
  | none =>
    let p := paramsOf values
    let s1 := s.setParams p
    let s2 := if p.centreBand = s.params.centreBand then s1 else s1.reevaluate
    s2.accept 0x10#8 tag (derivedBytes p)

/-- GetParameters (R15). -/
def handleGetParameters (tag : Byte) (s : State) : State :=
  s.accept 0x11#8 tag ((paramList s.params).flatMap u32 ++ derivedBytes s.params)

end Sys2Proof.Machine
end

