-- ==== Sys2Proof/Machine/HostLink.lean ====
section
/-! DEFINITION. The host link: the link's checks and the hand-over of a request to its owner (R176 to R178), the
request slot (R174), the receiver and the frame assembler (R171 to R175), the notices and the transmitter (R180 to
R182), SetReporting (R184), and how a command acts on the part (R35, R180). -/

namespace Sys2Proof.Machine

open Sys2Proof

/-! ## Handling a request -/

/-- Whether the request is admitted in the current mode and run state (R4, R10, R18, R54, R66, R148). -/
def admitted (r : Request) (s : State) : Bool :=
  match r with
  | .commission | .setParameters _ | .setFormation .. => s.ctl.mode == .setup
  | .returnToSetup | .startRun _ => s.ctl.mode == .standby && !s.ctl.run
  | .endRun | .enableTilt => s.ctl.mode == .standby && s.ctl.run
  | .disableTilt => s.ctl.mode == .active || s.ctl.mode == .inhibited
  | .resumeTilt => s.ctl.mode == .inhibited
  | .resolveCapture .. | .openBatch _ | .addSegments .. | .closeBatch _ | .truncateGeometry _ => s.ctl.run
  | .rollCall => s.ctl.mode == .setup || s.ctl.mode == .standby
  | .identify | .queryStatus | .reset | .getParameters | .getFormation | .queryPosition | .queryGeometry
  | .queryCar _ | .clearCarFault _ | .nodeTransfer .. | .readAlerts | .setReporting _ => true

/-- The telemetry period that a request for `n` computations sets (R184). -/
def reportingPeriod (n : Nat) : Nat := min n Config.reportingMax

/-- SetReporting (R184). -/
def handleSetReporting (tag : Byte) (period : Half) (s : State) : State :=
  let n := reportingPeriod period.toNat
  (s.setLink { s.link with period := n, countdown := n }).accept 0x38#8 tag ([u8 n] ++ reserved 3)

/-- The owner of a request acts on it (table of owners before R176). -/
def serve (tag : Byte) (r : Request) (s : State) : State :=
  match r with
  | .identify => handleIdentify tag s
  | .queryStatus => handleQueryStatus tag s
  | .commission => handleCommission tag s
  | .returnToSetup => handleReturnToSetup tag s
  | .startRun origin => handleStartRun tag origin s
  | .endRun => handleEndRun tag s
  | .enableTilt => handleEnableTilt tag s
  | .disableTilt => handleDisableTilt tag s
  | .resumeTilt => handleResumeTilt tag s
  | .reset => handleReset tag s
  | .setParameters values => handleSetParameters tag values s
  | .getParameters => handleGetParameters tag s
  | .setFormation count _ _ _ records => handleSetFormation tag count records s
  | .getFormation => handleGetFormation tag s
  | .resolveCapture number _ _ x => handleResolveCapture tag number x s
  | .queryPosition => handleQueryPosition tag s
  | .openBatch declared => handleOpenBatch tag declared s
  | .addSegments count _ _ _ records => handleAddSegments tag count records s
  | .closeBatch count => handleCloseBatch tag count s
  | .truncateGeometry x => handleTruncate tag x s
  | .queryGeometry => handleQueryGeometry tag s
  | .queryCar car => handleQueryCar tag car s
  | .clearCarFault car => handleClearCarFault tag car s
  | .rollCall => handleRollCall tag s
  | .nodeTransfer car direction item _ value => handleNodeTransfer tag car direction item value s
  | .readAlerts => handleReadAlerts tag s
  | .setReporting period => handleSetReporting tag period s

/-- A request whose kind is known is handled: the link's checks 2 to 4 in order, then its owner (R176). -/
def handleRequest (tag : Byte) (r : Request) (s : State) : State :=
  if !lengthAgrees r then s.refuse (requestCode r) tag .badLength .none
  else if !admitted r s then s.refuse (requestCode r) tag .wrongMode .none
  else
    match reservedFault r with
    | some offset => s.refuseAt (requestCode r) tag .badValue .field offset
    | none => serve tag r s

/-- The answer to a kind that is no request's (R176, R188): kind 0xFF and the header alone. -/
def unknownReply (tag : Byte) : Frame :=
  { kind := 0xFF#8, tag := tag, body := header .unknownKind .none 0 }

/-- A good frame is handled (R176). -/
def handleFrame (f : Frame) (s : State) : State :=
  match decodeFrame f with
  | .unknownKind => s.respond (unknownReply f.tag)
  | .badLength => s.refuse f.kind f.tag .badLength .none
  | .request r => handleRequest f.tag r s

/-! ## The request slot (R174, R176) -/

/-- Requests may be handed to handling: the reply slot is empty and no accepted Reset waits (R176). -/
def isReady (s : State) : Bool := s.link.reply.isNone && !s.link.resetWaiting

/-- A good frame that finds the request slot occupied is dropped and counted (R174, R175). -/
def dropFrame (s : State) : State :=
  s.setLink { s.link with refused := countUp s.link.refused Config.counterMax }

/-- A good frame has ended, and `handle` is the handling of what it carries: it is dropped where the slot is
occupied, handled at once where the link is ready, and waits in the slot otherwise (R174, R176; log entry 11). -/
def receive (f : Frame) (handle : State → State) (s : State) : State :=
  if s.link.slot.isSome then dropFrame s
  else if isReady s then handle s
  else s.setLink { s.link with slot := some f }

/-- A good frame has ended (R174). -/
def acceptFrame (f : Frame) (s : State) : State := receive f (handleFrame f) s

/-- A good frame that carries a request has ended (R174, R176). -/
def submit (tag : Byte) (r : Request) (s : State) : State := receive (requestFrame tag r) (handleRequest tag r) s

/-- The request that waits in the slot is handed to handling where the link is ready (R176, R177). -/
def handOver (s : State) : State :=
  match s.link.slot with
  | some f => if isReady s then handleFrame f (s.setLink { s.link with slot := none }) else s
  | none => s

/-! ## The receiver (R171, R172) -/

/-- The received parity bit disagrees with even parity over the nine bits (R170, R171). -/
def parityMark (data : Byte) (parity : Bool) : Bool := isOdd data != parity

/-- A line held at the start level for a whole character time: every bit, the stop bit too, is at the start level
(R171). -/
def isBreak (data : Byte) (parity stop : Bool) : Bool := data == 0#8 && !parity && !stop

/-- The character with its marks joins the tail of the FIFO, or is lost and leaves an overrun pending (R171). -/
def storeCharacter (data : Byte) (parity stop : Bool) (l : HostLink) : HostLink :=
  if l.fifo.length < Config.fifoCapacity then
    { l with
      fifo := l.fifo ++ [{ data := data, parity := parityMark data parity, framing := !stop, overrun := l.overrun,
                           gap := false }],
      overrun := false }
  else { l with overrun := true }

/-- A character completes on RXD (R171, R172): nothing is decoded while the receiver waits for the idle level. -/
def receiveCharacter (data : Byte) (parity stop : Bool) (l : HostLink) : HostLink :=
  if l.waitIdle then l
  else { storeCharacter data parity stop l with gapRunning := true, waitIdle := isBreak data parity stop }

/-- A character completes on RXD (R171). -/
def hearCharacter (data : Byte) (parity stop : Bool) (s : State) : State :=
  s.setLink (receiveCharacter data parity stop s.link)

/-- RXD stands at the idle level (R171). -/
def hearIdle (s : State) : State := s.setLink { s.link with waitIdle := false }

/-! ## The frame assembler (R173 to R175) -/

/-- One more bad frame; the assembler hunts (R173, R175). -/
def discardBad (s : State) : State :=
  s.setLink { s.link with asm := .hunt, bad := countUp s.link.bad Config.counterMax }

/-- The assembler acts on a gap (R173). -/
def assembleGap (s : State) : State :=
  match s.link.asm with
  | .hunt => s
  | .length => s.setLink { s.link with asm := .hunt, broken := countUp s.link.broken Config.counterMax }
  | .collect _ _ _ => s.setLink { s.link with asm := .hunt, broken := countUp s.link.broken Config.counterMax }

/-- The characters that the CRC covers: all but the last two of the assembly buffer (R174). -/
def coveredPart (buffer : List Byte) : List Byte := buffer.take (buffer.length - 2)

/-- The CRC received, low byte first, is the one computed (R174, R188). -/
def crcMatches (buffer : List Byte) : Bool :=
  buffer.drop (buffer.length - 2) == bytes2 (crc16 (coveredPart buffer))

/-- The kind, the tag and the body in an assembly buffer that begins with LENGTH (R188); empty for a buffer too short to
hold them (log entry 15). -/
def frameOf (buffer : List Byte) : Frame :=
  match coveredPart buffer with
  | _ :: kind :: tag :: body => { kind := kind, tag := tag, body := body }
  | _ => { kind := 0#8, tag := 0#8, body := [] }

/-- The last CRC character has been stored: the frame ends (R174). -/
def endFrame (buffer : List Byte) (spoiled : Bool) (s : State) : State :=
  if spoiled then discardBad s
  else if crcMatches buffer then acceptFrame (frameOf buffer) (s.setLink { s.link with asm := .hunt })
  else discardBad s

/-- An error mark: parity, framing or overrun (R173). -/
def RxChar.isMarked (c : RxChar) : Bool := c.parity || c.framing || c.overrun

/-- The assembler acts on a character by its state (R173). -/
def assemble (c : RxChar) (s : State) : State :=
  match s.link.asm with
  | .hunt => if c.data = Config.sync ∧ c.isMarked = false then s.setLink { s.link with asm := .length } else s
  | .length =>
    if 2 ≤ c.data.toNat ∧ c.data.toNat ≤ 250 ∧ c.isMarked = false then
      s.setLink { s.link with asm := .collect [c.data] (c.data.toNat + 2) false }
    else discardBad s
  | .collect buffer left spoiled =>
    if left ≤ 1 then endFrame (buffer ++ [c.data]) (spoiled || c.isMarked) s
    else s.setLink { s.link with asm := .collect (buffer ++ [c.data]) (left - 1) (spoiled || c.isMarked) }

/-- The assembler takes the character at the head of the FIFO; with the FIFO empty it takes none (R171, R173). -/
def takeCharacter (s : State) : State :=
  match s.link.fifo with
  | [] => s
  | c :: rest =>
    let t := assemble c (s.setLink { s.link with fifo := rest })
    if c.gap then assembleGap t else t

/-- The character at the head of the FIFO is the last of the frame being collected. -/
def atFrameEnd (s : State) : Bool :=
  match s.link.asm with
  | .collect _ left _ => decide (left ≤ 1) && !s.link.fifo.isEmpty
  | _ => false

/-- The last character of the frame being collected is taken, where it is the one at the head of the FIFO (R174). -/
def takeLast (s : State) : State := if atFrameEnd s then takeCharacter s else s

/-- The newest character of the FIFO receives the gap mark (R172). -/
def markNewest : List RxChar → List RxChar
  | [] => []
  | [c] => [{ c with gap := true }]
  | c :: rest => c :: markNewest rest

/-- The gap timer expires (R172). -/
def expireGap (s : State) : State :=
  let t := s.setLink { s.link with gapRunning := false, fifo := markNewest s.link.fifo }
  if s.link.fifo.isEmpty then assembleGap t else t

/-- The gap timer expires where it runs; it does not while the line is held at the start level (R172). -/
def hearGap (s : State) : State := if s.link.gapRunning && !s.link.waitIdle then expireGap s else s

/-! ## Notices (R182, R191) -/

def noticeCode : NoticeKind → Byte
  | .mode => 0x60#8
  | .cars => 0x61#8
  | .line => 0x62#8
  | .position => 0x63#8
  | .geometry => 0x64#8
  | .alerts => 0x65#8
  | .telemetry => 0x66#8

/-- The cars whose fault is unreported, each with its index (R136). -/
def unreportedCars (s : State) : List (Nat × Channel) :=
  (carIndexes s).filterMap (fun k => ((s.chans[k]?).filter Channel.unreported).map (fun c => (k, c)))

/-- An entry of the CARS notice. -/
def carEntry (e : Nat × Channel) : List Byte :=
  [u8 e.1, chanStateCode e.2.state, faultSetByte e.2.faults, faultCode e.2.firstFault]

/-- An entry of the TELEMETRY notice: set-point, last target, reported angle, state, source (R140). -/
def telemetryEntry (s : State) (k : Nat) (c : Channel) : List Byte :=
  let r := s.plan.records[k]?
  i16 c.theta ++ i16 ((r.map PlanRecord.target).getD 0) ++ i16 (c.angle.getD 0) ++
    [chanStateCode c.state, sourceCode ((r.map PlanRecord.source).getD .none), yesNo c.angle.isSome, 0#8]

/-- The content of a notice, after its flags (R191). -/
def noticeContent (s : State) : NoticeKind → List Byte
  | .mode => [modeCode s.ctl.mode, yesNo s.ctl.inhibit, yesNo s.ctl.latch, causeCode s.ctl.cause]
  | .cars => [u8 (unreportedCars s).length, 0#8] ++ (unreportedCars s).flatMap carEntry
  | .line =>
    [lineStateCode s.line.state, u8 (boundCount s), u8 (missingCount s), u8 s.line.foreign.count,
      u8 s.line.parked.length, 0#8] ++ u16 s.line.echoTotal
  | .position =>
    i32 s.odo.pos ++ u32 s.odo.uCm ++
      [yesNo s.odo.trust, yesNo s.odo.tachoA.failed, yesNo s.odo.tachoB.failed, u8 s.odo.captures.length] ++
      s.odo.captures.flatMap captureBytes
  | .geometry =>
    [yesNo s.geo.committedEnd.isSome, 0#8] ++ u16 s.geo.freeCount ++ i32 (s.geo.committedEnd.getD 0) ++
      i32 (lookAhead s)
  | .alerts => [u8 s.line.alerts.length] ++ reserved 3
  | .telemetry => [u8 s.cars.length, 0#8] ++ (s.chans.mapIdx (telemetryEntry s)).flatten

/-- The frame of a notice; its tag is 0 (R180). -/
def noticeFrame (s : State) (k : NoticeKind) : Frame :=
  { kind := noticeCode k, tag := 0#8, body := bytes2 (s.link.notices.get k).flags ++ noticeContent s k }

/-- The frame is built and sent, character by character (R170, R180). -/
def transmit (f : Frame) (s : State) : State := s.setLink { s.link with sending := some (frameChars f) }

/-- The fault-unreported flags are set to no once a CARS notice carries them (R136). -/
def clearUnreported (s : State) : State := s.setChans (s.chans.map (fun c => { c with unreported := false }))

/-- A notice is composed: its frame, then the kind's mark and flags cleared (R182). -/
def sendNotice (k : NoticeKind) (s : State) : State :=
  let t := transmit (noticeFrame s k) (s.setLink { s.link with notices := s.link.notices.set k .clear })
  if k = .cars then clearUnreported t else t

/-! ## The transmitter (R180) -/

/-- The pending notice kind of highest priority. -/
def firstNotice (s : State) : Option NoticeKind := noticeOrder.find? (fun k => (s.link.notices.get k).pending)

/-- The arbiter chooses for an idle transmitter: the reply, then the oldest completion, then a notice (R180). -/
def choose (s : State) : State :=
  match s.link.reply with
  | some f => handOver (transmit f (s.setLink { s.link with reply := none }))
  | none =>
    match s.link.completions with
    | f :: rest => transmit f (s.setLink { s.link with completions := rest })
    | [] =>
      match firstNotice s with
      | some k => sendNotice k s
      | none => s

/-- The frame being sent is the reply of an accepted Reset: it is the first frame chosen after the acceptance, and
no reply follows it (R36). -/
def sendsResetReply (s : State) : Bool := s.link.resetWaiting && s.link.reply.isNone && s.link.sending.isSome

/-- The last character of the frame being sent has gone: the accepted Reset takes effect (R36), or the arbiter chooses
(R180). With no frame being sent there is the choice alone. -/
def frameSent (pins : Pins) (s : State) : State :=
  if sendsResetReply s then State.afterReset s.pending pins
  else choose (s.setLink { s.link with sending := none })

/-- An idle transmitter chooses among what waits (R180). -/
def chooseIfIdle (s : State) : State := if s.link.sending = none then choose s else s

/-- A command acts on the part, unless RESET_N holds it in reset (R35): an idle transmitter has chosen among what waited
before the command, and chooses among what the whole of it has made appear (R180; log entry 3). -/
def act (f : State → State) (s : State) : Result := unlessHeld s (chooseIfIdle (f (chooseIfIdle s)))

end Sys2Proof.Machine
end

