-- ==== Sys2Proof/Machine/Plan.lean ====
section
/-! DEFINITION. The tilt planner: evaluation positions (R102), the choice of a source (R103 to R105), the
predictive and the reactive arithmetic (R106 to R110), the gangway envelope (R112 to R114), the delivery of the
target list (R116), the exhaustion test (R117) and the report that counts for telemetry (R183). -/

namespace Sys2Proof.Machine

open Sys2Proof

/-! ## Evaluation positions (R102) -/

/-- The lead distance of a car, in cm. -/
def leadDistance (s : State) (n : CarNode) : Int := ((s.odo.v * n.lead / 1000 : Nat) : Int)

/-- The front evaluation position. -/
def frontAt (s : State) (c : Car) (n : CarNode) : Int := s.odo.pos - c.front + leadDistance s n

/-- The rear evaluation position. -/
def rearAt (s : State) (c : Car) (n : CarNode) : Int := s.odo.pos - c.rear + leadDistance s n

/-! ## The predictive method (R106 to R109) -/

/-- The mean of the values at the two bogies, truncated (R106). -/
def bogieMean (x y : Int) : Int := truncated (x + y) 2

/-- The uncompensated lateral acceleration, clamped (R107). -/
def lateral (s : State) (curve cant : Int) : Int :=
  clampAbs
    (rounded (((s.odo.v : Int) * s.odo.v) * curve) 10000000 - rounded (9807 * cant) s.params.trackBase)
    Config.computedLimit

/-- The angle at which the share of an acceleration is felt as weight, clamped to ±thetaMax (R108, R110). -/
def tiltAngle (s : State) (share : Nat) (a : Int) : Int :=
  clampAbs (rounded ((share : Int) * a * 57296) 9807000) s.params.thetaMax

/-- The smaller of two optional caps (R109). -/
def smallerCap : Option Int → Option Int → Option Int
  | some x, some y => some (min x y)
  | some x, none => some x
  | none, y => y

/-- A target clamped to a cap, where there is one (R109). -/
def applyCap (cap : Option Int) (t : Int) : Int :=
  match cap with
  | some m => clampAbs t m
  | none => t

/-- The target from the segments under the two bogies (R106 to R109). -/
def predTarget (s : State) (pf pr : Int) (gf gr : Segment) : Int :=
  let a := lateral s (bogieMean (gf.curve pf) (gr.curve pr)) (bogieMean (gf.cant pf) (gr.cant pr))
  applyCap (smallerCap gf.cap gr.cap) (tiltAngle s s.params.compPredictive a)

/-! ## The reactive method (R110) -/

/-- The position a car asks the history ring about. -/
def queryPosition (s : State) (c : Car) (n : CarNode) : Int :=
  s.odo.pos - truncated (c.front + c.rear) 2 + leadDistance s n

/-- Whether the sensing car exists and its node is bound (R103, row 4). -/
def sensingBound (s : State) : Bool := ((sensingCar s).map (isBound s)).getD false

/-- The mean the ring gives a car, where row 4 of R103 may use it. -/
def reactMean (s : State) (c : Car) (n : CarNode) : Option Int :=
  if s.params.reactiveEnable && sensingBound s then
    meanAt (queryPosition s c n) s.params.reactiveWindow s.ring
  else none

/-- The target from a mean acceleration. -/
def reactTarget (s : State) (mean : Int) : Int :=
  tiltAngle s s.params.compReactive (clampAbs mean Config.computedLimit)

/-! ## The source (R103, R104) -/

/-- Row 4 or row 5 of R103. -/
def fallbackTarget (s : State) (c : Car) (n : CarNode) : Target :=
  match reactMean s c n with
  | some m => { angle := reactTarget s m, source := .react }
  | none => { angle := 0, source := .none }

/-- The record of a car before the envelope: target, source, evaluation positions, fallback flag (R103, R104). -/
def planCar (s : State) (c : Car) : PlanRecord :=
  match c.node with
  | none => { target := 0, source := .none, front := none, rear := none, fallback := false }
  | some n =>
    if !s.ctl.run then { target := 0, source := .none, front := none, rear := none, fallback := false }
    else
      let pf := frontAt s c n
      let pr := rearAt s c n
      if s.odo.v < s.params.speedMin then
        { target := 0, source := .none, front := some pf, rear := some pr, fallback := false }
      else
        match s.geo.at pf, s.geo.at pr with
        | some gf, some gr =>
          if s.odo.trust then
            { target := predTarget s pf pr gf gr, source := .pred, front := some pf, rear := some pr,
              fallback := false }
          else
            let t := fallbackTarget s c n
            { target := t.angle, source := t.source, front := some pf, rear := some pr, fallback := true }
        | _, _ =>
          let t := fallbackTarget s c n
          { target := t.angle, source := t.source, front := some pf, rear := some pr, fallback := false }

/-! ## The gangway envelope (R112 to R114) -/

/-- The pinned angle of a car that is not FOLLOWING (R113). -/
def pinnedAngle (c : Channel) : Option Int :=
  match c.state with
  | .following => none
  | .returning => some c.theta
  | _ => some 0

/-- The pinned cars of a computation, each with its index and its angle (R113). -/
def pinnedCars (s : State) : List (Nat × Int) :=
  (carIndexes s).filterMap (fun j => ((s.chans[j]?).bind pinnedAngle).map (fun a => (j, a)))

/-- The gangways between two cars. -/
def gangways (k j : Nat) : Int := ((k : Int) - j).natAbs

/-- The greatest of the lower bounds over the pinned cars (R114). -/
def lowBound (k : Nat) (adj : Int) : List (Nat × Int) → Option Int
  | [] => none
  | (j, a) :: rest =>
    let b := a - adj * gangways k j
    some (match lowBound k adj rest with | some m => max b m | none => b)

/-- The least of the upper bounds over the pinned cars (R114). -/
def highBound (k : Nat) (adj : Int) : List (Nat × Int) → Option Int
  | [] => none
  | (j, a) :: rest =>
    let b := a + adj * gangways k j
    some (match highBound k adj rest with | some m => min b m | none => b)

/-- The target of car k bounded by the pinned cars (R114). -/
def envelope (s : State) (k : Nat) (t : Int) : Int :=
  match lowBound k s.params.adjacentMax (pinnedCars s), highBound k s.params.adjacentMax (pinnedCars s) with
  | some low, some high => if low ≤ high then clamp t low high else rounded (low + high) 2
  | _, _ => t

/-- Whether the channel of car k is FOLLOWING. -/
def isFollowing (s : State) (k : Nat) : Bool := ((s.chans[k]?).map (fun c => c.state == .following)).getD false

/-- The envelope binds a FOLLOWING car under LOCAL (R112). -/
def boundTarget (s : State) (k : Nat) (t : Int) : Int :=
  if s.params.faultPolicy = .isolated ∧ isFollowing s k = true then envelope s k t else t

/-- The stages of R115 for car k. -/
def planRecord (s : State) (k : Nat) (c : Car) : PlanRecord :=
  let r := planCar s c
  { r with target := boundTarget s k r.target }

/-! ## The computation -/

/-- A car is exhausted: the committed list is empty, or its front position lies at or beyond the committed end (R117).
-/
def isExhausted (s : State) (c : Car) : Bool :=
  match c.node, s.geo.committedEnd with
  | none, _ => false
  | some _, none => true
  | some n, some e => decide (e ≤ frontAt s c n)

/-- The exhaustion test (R117). -/
def testExhaustion (s : State) : State :=
  if s.ctl.mode = .active then
    let x := s.cars.any (isExhausted s)
    (s.setPlan { s.plan with exhausted := x }).raiseIf (x && !s.plan.exhausted) .geometry flagExhausted
  else s.setPlan { s.plan with exhausted := false }

/-- The host link counts a report of a completed computation (R183). -/
def countReport (s : State) : State :=
  if s.link.period = 0 then s
  else
    let n := s.link.countdown - 1
    if n = 0 then (s.setLink { s.link with countdown := s.link.period }).raise .telemetry noFlag
    else s.setLink { s.link with countdown := n }

/-- A report reaches the host link. Without a formation no computation completes, so none is reported (R116, R183). -/
def hearReport (s : State) : State := if formationExists s then countReport s else s

/-- The records and the target list are written (R116). -/
def deliverTargets (s : State) : State :=
  let records := s.cars.mapIdx (fun k c => planRecord s k c)
  s.setPlan
    { s.plan with records := records,
                  delivered := some (records.map (fun r => { angle := r.target, source := r.source })) }

/-- One computation, where a formation exists (R99, R116). -/
def computePlan (s : State) : State :=
  if formationExists s then countReport (testExhaustion (deliverTargets s)) else s

end Sys2Proof.Machine
end

