-- ==== Sys2Proof/Machine/Commands.lean ====
section
/-! DEFINITION. The meaning of each command, over the operations of the blocks: one definition per row of
spec/opcode_table.json. -/

namespace Sys2Proof.Machine

open Sys2Proof

/-! ## The requests: the good end of the frame that carries each (R174, R176; log entry 11) -/

def execIdentify (tag : Byte) (s : State) : Result := act (submit tag .identify) s

def execQueryStatus (tag : Byte) (s : State) : Result := act (submit tag .queryStatus) s

def execCommission (tag : Byte) (s : State) : Result := act (submit tag .commission) s

def execReturnToSetup (tag : Byte) (s : State) : Result := act (submit tag .returnToSetup) s

def execStartRun (tag : Byte) (origin : Word) (s : State) : Result := act (submit tag (.startRun origin)) s

def execEndRun (tag : Byte) (s : State) : Result := act (submit tag .endRun) s

def execEnableTilt (tag : Byte) (s : State) : Result := act (submit tag .enableTilt) s

def execDisableTilt (tag : Byte) (s : State) : Result := act (submit tag .disableTilt) s

def execResumeTilt (tag : Byte) (s : State) : Result := act (submit tag .resumeTilt) s

def execReset (tag : Byte) (s : State) : Result := act (submit tag .reset) s

def execSetParameters (tag : Byte) (values : Vector Word 28) (s : State) : Result :=
  act (submit tag (.setParameters values)) s

def execGetParameters (tag : Byte) (s : State) : Result := act (submit tag .getParameters) s

def execSetFormation (tag count rsv1 rsv2 rsv3 : Byte) (records : List CarWire) (s : State) : Result :=
  act (submit tag (.setFormation count rsv1 rsv2 rsv3 records)) s

def execGetFormation (tag : Byte) (s : State) : Result := act (submit tag .getFormation) s

def execResolveCapture (tag : Byte) (number : Half) (rsv2 rsv3 : Byte) (x : Word) (s : State) : Result :=
  act (submit tag (.resolveCapture number rsv2 rsv3 x)) s

def execQueryPosition (tag : Byte) (s : State) : Result := act (submit tag .queryPosition) s

def execOpenBatch (tag : Byte) (declared : Word) (s : State) : Result := act (submit tag (.openBatch declared)) s

def execAddSegments (tag count rsv1 rsv2 rsv3 : Byte) (records : List SegmentWire) (s : State) : Result :=
  act (submit tag (.addSegments count rsv1 rsv2 rsv3 records)) s

def execCloseBatch (tag count : Byte) (s : State) : Result := act (submit tag (.closeBatch count)) s

def execTruncateGeometry (tag : Byte) (x : Word) (s : State) : Result := act (submit tag (.truncateGeometry x)) s

def execQueryGeometry (tag : Byte) (s : State) : Result := act (submit tag .queryGeometry) s

def execQueryCar (tag car : Byte) (s : State) : Result := act (submit tag (.queryCar car)) s

def execClearCarFault (tag car : Byte) (s : State) : Result := act (submit tag (.clearCarFault car)) s

def execRollCall (tag : Byte) (s : State) : Result := act (submit tag .rollCall) s

def execNodeTransfer (tag car direction item rsv3 : Byte) (value : Half) (s : State) : Result :=
  act (submit tag (.nodeTransfer car direction item rsv3 value)) s

def execReadAlerts (tag : Byte) (s : State) : Result := act (submit tag .readAlerts) s

def execSetReporting (tag : Byte) (period : Half) (s : State) : Result := act (submit tag (.setReporting period)) s

/-! ## The pins -/

/-- RESET_N: held low and released, it puts every block to its reset values, the pins at the levels given (R34, R35,
R37). The transmitter is idle then, and the MODE notice waits (R185). -/
def execResetN (pins : Pins) (s : State) : Result := .next (State.afterReset s.pending pins)

/-- RESET_N_ASSERTED: RESET_N goes low (R35; log entry 6). -/
def execResetNAsserted (s : State) : Result := .next (holdInReset s)

/-- INHIBIT_SAMPLE: one sample of the inhibit filter; the third opposing one is an acceptance (R28). -/
def execInhibitSample (asserted : Bool) (s : State) : Result := act (sampleInhibit asserted) s

/-- INHIBIT_ASSERTED: the acceptance of the ASSERTED level. A filter that holds that level already accepts nothing
(R29; log entry 4). -/
def execInhibitAsserted (s : State) : Result := act inhibitAsserted s

/-- INHIBIT_RELEASED: the acceptance of the RELEASED level. A filter that holds that level already accepts nothing
(R30; log entry 4). -/
def execInhibitReleased (s : State) : Result := act inhibitReleased s

/-! ## The odometer -/

/-- PULSE_DECODE: the pulse decoder of a channel sees the lines of its pair at the levels given (R37; log entry 5). -/
def execPulseDecode (channel : TachoName) (levels : Pair) (s : State) : Result :=
  act (decodePulse channel levels) s

/-- ODOMETRY_SLOT (R41). -/
def execOdometrySlot (s : State) : Result := act takeSlot s

/-- TACHO_FAILED: the failure test of R40 on one channel, as each slot makes it after its measurement (log entry 4).
-/
def execTachoFailed (channel : TachoName) (s : State) : Result := act (failTacho channel) s

/-- MARKER_SAMPLE: one sample of the marker filter; the third opposing one is an acceptance (R49). -/
def execMarkerSample (high : Bool) (s : State) : Result := act (sampleMarker high) s

/-- MARKER_RISING_EDGE: the accepted rising edge. A filter that holds HIGH already has none to accept (R50; log entry
4). -/
def execMarkerRisingEdge (s : State) : Result := act markerRises s

/-! ## The planner and the channel unit -/

/-- PLANNER_COMPUTATION (R99). -/
def execPlannerComputation (s : State) : Result := act computePlan s

/-- TELEMETRY_COUNTDOWN: the host link counts one report of the planner, as each computation makes it. Without a
formation no computation completes, and nothing is counted (R116, R183; log entry 4). -/
def execTelemetryCountdown (s : State) : Result := act hearReport s

/-- TARGET_LIST_ARRIVAL: the delivered list arrives; with none delivered, none arrives (R125). -/
def execTargetListArrival (s : State) : Result := act takeTargets s

/-- TRACKING: the tracking test of a car whose node is bound, as each good STAT makes it (R132; log entry 4). -/
def execTracking (car : Nat) (s : State) : Result := act (testTracking car) s

/-! ## The car line -/

/-- LINE_HALT: the third consecutive echo mismatch, on a line that carries frames (R162; log entry 4). -/
def execLineHalt (s : State) : Result :=
  act haltCarrying s

/-- CLAIM_ROUND: the outcome of the round that the delivered CLAIM has opened; with no round open there is none to
read (R149; log entry 7). -/
def execClaimRound (outcome : ClaimOutcome) (s : State) : Result :=
  act (hearRound outcome) s

/-- MUSTER_END: the muster ends with a round that draws no claim (R150; log entry 4). -/
def execMusterEnd (s : State) : Result := act hearMusterEnd s

/-- LINE_CYCLE: the cycle timer expires (R152). -/
def execLineCycle (s : State) : Result := act startCycle s

/-- REPLY_SILENCE: no reply begins within the window, or the reply is bad (R145). -/
def execReplySilence (s : State) : Result := act noReply s

/-- STAT: a reply of kind STAT whose check passes. It is good where an ASK awaits its address; another reply awaited
makes it a bad one; otherwise it is not heard (R145, R146, R154). -/
def execStat (address : Nat) (angle : Int) (condition : NodeCond) (flags : NodeFlags) (acceleration : Option Int)
    (s : State) : Result := act (hearStat address angle condition flags acceleration) s

/-- NODE_LOST: the third consecutive miss of the car's node. A car without a bound node has none to lose (R155; log
entry 4). Where it was the car being asked, the ASK phase goes on. -/
def execNodeLost (car : Nat) (s : State) : Result := act (hearNodeLost car) s

/-- MRSP: a reply of kind MRSP whose check passes; good where the transfer to its address awaits one (R145, R156). -/
def execMrsp (address : Nat) (accepted : Bool) (value : Half) (s : State) : Result :=
  act (hearMrsp address accepted value) s

/-- CONTENTION_KEY: the winning key of the window that the delivered CALL has opened; with no window open there is
none to read (R157; log entry 7). -/
def execContentionKey (key : WindowKey) (s : State) : Result :=
  act (hearKey key) s

/-- ALRT: an ALRT whose check passes; good where it carries the address awaited (R158, R159). -/
def execAlrt (address : Nat) (kind : AlertKind) (detail : Half) (s : State) : Result :=
  act (hearAlrt address kind detail) s

/-- FRAME_ECHO: the echo of the frame the part has sent is compared; with no frame sent there is none (R146). -/
def execFrameEcho (isMatch : Bool) (s : State) : Result :=
  act (hearEcho isMatch) s

/-! ## The host link -/

/-- UNKNOWN_KIND: a good frame of a kind that is no request's has ended (R176). -/
def execUnknownKind (kind tag : Byte) (body : List Byte) (s : State) : Result :=
  act (acceptFrame { kind := kind, tag := tag, body := body }) s

/-- CHARACTER_RECEIVED: a character completes on RXD (R171). -/
def execCharacterReceived (data : Byte) (parity stop : Bool) (s : State) : Result :=
  act (hearCharacter data parity stop) s

/-- RXD_IDLE_LEVEL: RXD stands at the idle level, and the receiver waits for it no longer (R171). -/
def execRxdIdleLevel (s : State) : Result := act hearIdle s

/-- CHARACTER_TAKEN: the assembler takes a character (R173). -/
def execCharacterTaken (s : State) : Result := act takeCharacter s

/-- FRAME_END: the taking of the last CRC character, where that is the character at the head of the FIFO (R174; log
entry 4). -/
def execFrameEnd (s : State) : Result := act takeLast s

/-- GAP: the gap timer expires, where it runs and the line is idle (R172). -/
def execGap (s : State) : Result := act hearGap s

/-- FRAME_SENT: the last character of the frame being sent has gone; with no frame being sent, the transmitter chooses
(R180; log entry 3). The levels of the pins are taken only where an accepted Reset takes effect (R36). -/
def execFrameSent (pins : Pins) (s : State) : Result := unlessHeld s (frameSent pins s)

end Sys2Proof.Machine
end

