-- ==== Sys2Proof/Machine/Dispatch.lean ====
section
/-! DEFINITION. The effect of a command on everything but the queue: one arm per command, each one call of its
meaning. -/

namespace Sys2Proof.Machine

open Sys2Proof

def exec (i : Instr) (s : State) : Host.Outcome State Fault Refusal :=
  match i with
  | .identify tag => Sys2Proof.Machine.execIdentify tag s
  | .queryStatus tag => Sys2Proof.Machine.execQueryStatus tag s
  | .commission tag => Sys2Proof.Machine.execCommission tag s
  | .returnToSetup tag => Sys2Proof.Machine.execReturnToSetup tag s
  | .startRun tag origin => Sys2Proof.Machine.execStartRun tag origin s
  | .endRun tag => Sys2Proof.Machine.execEndRun tag s
  | .enableTilt tag => Sys2Proof.Machine.execEnableTilt tag s
  | .disableTilt tag => Sys2Proof.Machine.execDisableTilt tag s
  | .resumeTilt tag => Sys2Proof.Machine.execResumeTilt tag s
  | .reset tag => Sys2Proof.Machine.execReset tag s
  | .setParameters tag values => Sys2Proof.Machine.execSetParameters tag values s
  | .getParameters tag => Sys2Proof.Machine.execGetParameters tag s
  | .setFormation tag count rsv1 rsv2 rsv3 records => Sys2Proof.Machine.execSetFormation tag count rsv1 rsv2 rsv3 records s
  | .getFormation tag => Sys2Proof.Machine.execGetFormation tag s
  | .resolveCapture tag number rsv2 rsv3 x => Sys2Proof.Machine.execResolveCapture tag number rsv2 rsv3 x s
  | .queryPosition tag => Sys2Proof.Machine.execQueryPosition tag s
  | .openBatch tag declared => Sys2Proof.Machine.execOpenBatch tag declared s
  | .addSegments tag count rsv1 rsv2 rsv3 records => Sys2Proof.Machine.execAddSegments tag count rsv1 rsv2 rsv3 records s
  | .closeBatch tag count => Sys2Proof.Machine.execCloseBatch tag count s
  | .truncateGeometry tag x => Sys2Proof.Machine.execTruncateGeometry tag x s
  | .queryGeometry tag => Sys2Proof.Machine.execQueryGeometry tag s
  | .queryCar tag car => Sys2Proof.Machine.execQueryCar tag car s
  | .clearCarFault tag car => Sys2Proof.Machine.execClearCarFault tag car s
  | .rollCall tag => Sys2Proof.Machine.execRollCall tag s
  | .nodeTransfer tag car direction item rsv3 value => Sys2Proof.Machine.execNodeTransfer tag car direction item rsv3 value s
  | .readAlerts tag => Sys2Proof.Machine.execReadAlerts tag s
  | .setReporting tag period => Sys2Proof.Machine.execSetReporting tag period s
  | .unknownKind kind tag body => Sys2Proof.Machine.execUnknownKind kind tag body s
  | .resetN pins => Sys2Proof.Machine.execResetN pins s
  | .inhibitSample asserted => Sys2Proof.Machine.execInhibitSample asserted s
  | .inhibitAsserted => Sys2Proof.Machine.execInhibitAsserted s
  | .inhibitReleased => Sys2Proof.Machine.execInhibitReleased s
  | .markerSample high => Sys2Proof.Machine.execMarkerSample high s
  | .markerRisingEdge => Sys2Proof.Machine.execMarkerRisingEdge s
  | .pulseDecode channel levels => Sys2Proof.Machine.execPulseDecode channel levels s
  | .odometrySlot => Sys2Proof.Machine.execOdometrySlot s
  | .tachoFailed channel => Sys2Proof.Machine.execTachoFailed channel s
  | .plannerComputation => Sys2Proof.Machine.execPlannerComputation s
  | .telemetryCountdown => Sys2Proof.Machine.execTelemetryCountdown s
  | .targetListArrival => Sys2Proof.Machine.execTargetListArrival s
  | .lineCycle => Sys2Proof.Machine.execLineCycle s
  | .frameEcho matched => Sys2Proof.Machine.execFrameEcho matched s
  | .lineHalt => Sys2Proof.Machine.execLineHalt s
  | .stat address angle condition flags acceleration => Sys2Proof.Machine.execStat address angle condition flags acceleration s
  | .tracking car => Sys2Proof.Machine.execTracking car s
  | .replySilence => Sys2Proof.Machine.execReplySilence s
  | .nodeLost car => Sys2Proof.Machine.execNodeLost car s
  | .mrsp address accepted value => Sys2Proof.Machine.execMrsp address accepted value s
  | .claimRound outcome => Sys2Proof.Machine.execClaimRound outcome s
  | .musterEnd => Sys2Proof.Machine.execMusterEnd s
  | .contentionKey key => Sys2Proof.Machine.execContentionKey key s
  | .alrt address kind detail => Sys2Proof.Machine.execAlrt address kind detail s
  | .frameEnd => Sys2Proof.Machine.execFrameEnd s
  | .gap => Sys2Proof.Machine.execGap s
  | .frameSent pins => Sys2Proof.Machine.execFrameSent pins s
  | .characterReceived data parity stop => Sys2Proof.Machine.execCharacterReceived data parity stop s
  | .characterTaken => Sys2Proof.Machine.execCharacterTaken s
  | .rxdIdleLevel => Sys2Proof.Machine.execRxdIdleLevel s
  | .resetNAsserted => Sys2Proof.Machine.execResetNAsserted s

end Sys2Proof.Machine
end

