-- ==== Sys2Proof/Safety.lean ====
section
/-! DEFINITION. What a sound state of the part is: the laws the manual states or implies about its state, which
every step keeps. Claims name these. -/

namespace Sys2Proof.Machine

open Sys2Proof

/-- The mode ladder (R17, R25, R27, R29): a run exists in ACTIVE and INHIBITED and none in SETUP; the cars may move
only over a CYCLING line; ACTIVE has the inhibit released and acknowledged; an asserted inhibit is latched. -/
def ModeLaw (s : State) : Prop :=
  (s.ctl.mode = .setup → s.ctl.run = false) ∧
  (s.ctl.mode = .active ∨ s.ctl.mode = .inhibited → s.ctl.run = true ∧ s.line.state = .cycling) ∧
  (s.ctl.mode = .active → s.ctl.inhibit = false ∧ s.ctl.latch = false) ∧
  (s.ctl.mode = .inhibited → s.ctl.latch = true) ∧
  (s.ctl.inhibit = true → s.ctl.latch = true) ∧
  s.ctl.inhibitCount ≤ 2

/-- Run state exists only in a run (R24, R64, R67, R85, R96). -/
def RunLaw (s : State) : Prop :=
  s.ctl.run = false →
    s.odo.captures = [] ∧ s.geo.committed = [] ∧ s.geo.batch = none ∧ s.geo.armed = false ∧ s.ring = []

/-- The set-points (R119, R120, R129): only a FOLLOWING or RETURNING car holds one other than 0, FOLLOWING exists only
in ACTIVE, SETUP has no RETURNING car, and no set-point, step or reported angle exceeds its limit. -/
def ChannelLaw (s : State) : Prop :=
  (∀ c ∈ s.chans, c.state ≠ .following → c.state ≠ .returning → c.theta = 0 ∧ c.step = 0) ∧
  (∀ c ∈ s.chans, c.state = .following → s.ctl.mode = .active) ∧
  (s.ctl.mode = .setup → ∀ c ∈ s.chans, c.state ≠ .returning) ∧
  (∀ c ∈ s.chans, c.theta.natAbs ≤ s.params.thetaMax) ∧
  (∀ c ∈ s.chans, c.step.natAbs ≤ s.params.sMax) ∧
  (∀ c ∈ s.chans, ∀ a, c.angle = some a → a.natAbs ≤ 12000)

/-- The faults of a car (R119, R134, R135): exactly a FAILED car holds faults, its first fault is one of them, and
only its fault can be unreported. -/
def FaultLaw (s : State) : Prop :=
  ∀ c ∈ s.chans,
    (c.state = .failed ↔ c.faults ≠ .empty) ∧ (c.state = .failed ↔ c.firstFault.isSome = true) ∧
    (∀ f, c.firstFault = some f → c.faults.has f = true) ∧ (c.unreported = true → c.state = .failed) ∧
    c.trackCount ≤ Config.trackingCeiling

/-- CENTRE_OK stands at the level its conditions give (R32, R33): asserted exactly while the line is CYCLING, no
channel is FOLLOWING or RETURNING, and every tilting car has a bound node whose latest STAT lies within ±centreBand.
-/
def CentreLaw (s : State) : Prop :=
  s.ctl.centreOk = true ↔
    s.line.state = .cycling ∧ (∀ c ∈ s.chans, c.state ≠ .following ∧ c.state ≠ .returning) ∧
    ∀ k, k < s.cars.length → isTilting s k = true → isBound s k = true ∧
      ∃ c a, s.chans[k]? = some c ∧ c.angle = some a ∧ a.natAbs ≤ s.params.centreBand

/-- The formation passes the checks of R5 (R1). -/
def FormationLaw (s : State) : Prop :=
  s.cars.length ≤ Config.carCapacity ∧
  (∀ c, s.cars[0]? = some c → c.front = 0) ∧
  (∀ c ∈ s.cars, c.front ≤ 40000 ∧ c.front + 1 ≤ c.rear ∧ c.rear ≤ c.front + 3000) ∧
  (∀ c ∈ s.cars, ∀ n, c.node = some n → n.lead ≤ 1000) ∧
  s.cars.Pairwise (fun c d => c.front ≤ d.front ∧ c.rear ≤ d.rear) ∧
  (∀ c ∈ s.cars, c.sensing = true → c.node.isSome = true) ∧
  s.cars.Pairwise (fun c d => ¬(c.sensing = true ∧ d.sensing = true)) ∧
  s.cars.Pairwise (fun c d =>
    ∀ x y, c.node = some x → d.node = some y → x.serial ≠ y.serial)

/-- The serial of the node bound to car k, absent while none is bound. -/
def boundSerial (s : State) (k : Nat) : Option Serial := (s.line.nodes[k]?).bind NodeLink.serial

/-- The serial that the formation gives car k, absent for a car that does not tilt. -/
def ownSerial (s : State) (k : Nat) : Option Serial := ((s.cars[k]?).bind Car.node).map CarNode.serial

/-- The tables that the formation's readers hold per car have one entry per car, and a channel is NOT_FITTED exactly
where the car does not tilt (R6, R100, R119, R121). -/
def TableLaw (s : State) : Prop :=
  s.chans.length = s.cars.length ∧ s.line.nodes.length = s.cars.length ∧ s.plan.records.length = s.cars.length ∧
  (∀ k c, s.chans[k]? = some c → (c.state = .notFitted ↔ isTilting s k = false))

/-- A node is bound to the car of its serial alone, and a NAME on the line names it so (R3, R143, R149, R160). -/
def BindingLaw (s : State) : Prop :=
  (∀ k x, boundSerial s k = some x → ownSerial s k = some x) ∧
  (∀ x a, s.line.exch = .echo (.name x a) → a ≤ 12 → 1 ≤ a ∧ carOfSerial s x = some (a - 1)) ∧
  (∀ n ∈ s.line.nodes, n.miss ≤ 2)

/-- The channel states follow the bindings (R120, R122, R124, R155). -/
def BoundLaw (s : State) : Prop :=
  (∀ k c, s.chans[k]? = some c →
    (c.state = .centred ∨ c.state = .following ∨ c.state = .returning → isBound s k = true) ∧
    (c.state = .absent → isBound s k = false))

/-- A foreign address holds a serial that is no car's, and no serial holds two (R143, R149, R161). -/
def ForeignLaw (s : State) : Prop :=
  (∀ a x, s.line.foreign.get a = some x → carOfSerial s x = none) ∧
  (∀ a b x, s.line.foreign.get a = some x → s.line.foreign.get b = some x → a = b) ∧
  (∀ x a, s.line.exch = .echo (.name x a) → 12 < a →
    carOfSerial s x = none ∧ ∀ b, s.line.foreign.get b = some x → b = a)

/-- Every parameter lies within its range and the cross checks hold (R9, R10). -/
def ParamsLaw (s : State) : Prop :=
  firstOutside 1 (paramList s.params) paramRanges = none ∧
  s.params.fixAccuracy ≤ s.params.uResume ∧ s.params.uResume ≤ s.params.uMax ∧
  s.params.lookLow < s.params.lookHigh

/-- A tachometer channel within its ranges (R37, R38, R39). -/
def Tacho.Sound (t : Tacho) : Prop :=
  t.quarters.natAbs ≤ 3 ∧ t.silent ≤ Config.silentLimit ∧ t.window.length = Config.windowLength

/-- The odometer within its ranges (R43, R44, R45, R49). -/
def OdometerLaw (s : State) : Prop :=
  Config.posMin ≤ s.odo.pos ∧ s.odo.pos ≤ Config.posMax ∧ 0 ≤ s.odo.rho ∧ s.odo.rho < 10000 ∧
  s.odo.u ≤ Config.uCeiling ∧ s.odo.window.length = Config.windowLength ∧ s.odo.markerCount ≤ 2 ∧
  s.odo.tachoA.Sound ∧ s.odo.tachoB.Sound

/-- The open captures: at most eight, numbered in rising order below the next number (R50 to R52). -/
def CaptureLaw (s : State) : Prop :=
  s.odo.captures.length ≤ Config.captureCapacity ∧
  s.odo.captures.Pairwise (fun c d => c.number < d.number) ∧
  (∀ c ∈ s.odo.captures, 1 ≤ c.number ∧ c.number ≤ Config.captureLast) ∧
  (∀ n, s.odo.nextNumber = some n →
    1 ≤ n ∧ n ≤ Config.captureLast ∧ ∀ c ∈ s.odo.captures, c.number < n)

/-- The history ring: at most 1,024 samples at strictly rising positions (R87, R89). -/
def RingLaw (s : State) : Prop :=
  s.ring.length ≤ Config.ringCapacity ∧ s.ring.Pairwise (fun x y => x.position < y.position) ∧
  (∀ x ∈ s.ring, Config.posMin ≤ x.position ∧ x.position ≤ Config.posMax ∧
    -Config.measuredLimit ≤ x.accel ∧ x.accel ≤ Config.measuredLimit)

/-- The committed list: at most 256 records, none empty, each beginning where its predecessor ends; the staging area
holds at most 32 records of accepted length (R62, R64, R67, R69). -/
def GeometryLaw (s : State) : Prop :=
  s.geo.committed.length ≤ Config.committedCapacity ∧ joined s.geo.committed = true ∧
  (∀ g ∈ s.geo.committed, 1 ≤ g.length) ∧
  (∀ b, s.geo.batch = some b →
    b.staged.length ≤ Config.stagedCapacity ∧ ∀ g ∈ b.staged, 100 ≤ g.length ∧ g.length ≤ 500000)

/-- Deferred work: at most four transfers and one RollCall outstanding, so at most five completions; a muster is in
progress exactly while the line is MUSTERING (R148, R165, R166, R178). -/
def DeferredLaw (s : State) : Prop :=
  transfersOutstanding s ≤ Config.transferCapacity ∧
  (s.line.muster.isSome = true ↔ s.line.state = .mustering) ∧
  (if s.line.muster.isSome then 1 else 0) + s.link.completions.countP isRollCallCompletion ≤ 1 ∧
  (∀ f ∈ s.link.completions, isRollCallCompletion f = true ∨ isTransferCompletion f = true) ∧
  s.link.completions.length ≤ 5

/-- The line's counts and queues within their capacities (R143, R163). -/
def LineLaw (s : State) : Prop :=
  s.line.echoCount ≤ 2 ∧ s.line.echoTotal ≤ Config.counterMax ∧
  s.line.parked.length ≤ Config.parkedCapacity ∧ s.line.alerts.length ≤ Config.alertCapacity ∧
  (∀ a x, s.line.exch = .takeEcho a (some x) → s.line.alerts.length < Config.alertCapacity)

/-- An idle transmitter leaves no reply, no completion and no notice waiting (R180). -/
def Settled (s : State) : Prop :=
  s.link.sending = none →
    s.link.reply = none ∧ s.link.completions = [] ∧ ∀ k ∈ noticeOrder, (s.link.notices.get k).pending = false

/-- The host link: an idle transmitter leaves nothing waiting, but for the MODE notice of a reset that has just ended;
a request waits only while the link cannot handle it, the FIFO and the counters stay within their capacities,
telemetry's countdown stays within its period, and a frame being collected has the length it announced (R171, R173,
R175, R176, R180, R183, R185). -/
def LinkLaw (s : State) : Prop :=
  (Settled s ∨ ∃ pending pins, s = State.afterReset pending pins) ∧
  (s.link.slot.isSome = true → isReady s = false) ∧
  s.link.fifo.length ≤ Config.fifoCapacity ∧
  s.link.bad ≤ Config.counterMax ∧ s.link.broken ≤ Config.counterMax ∧ s.link.refused ≤ Config.counterMax ∧
  s.link.period ≤ Config.reportingMax ∧ s.link.countdown ≤ s.link.period ∧
  (s.link.countdown = 0 → s.link.period = 0) ∧
  (∀ buffer left spoiled, s.link.asm = .collect buffer left spoiled →
    ∃ n rest, buffer = n :: rest ∧ 2 ≤ n.toNat ∧ n.toNat ≤ 250 ∧ 1 ≤ left ∧
      buffer.length + left = n.toNat + 3)

/-! ## The words claims use -/

/-- The part is not held in reset (R35), and an idle transmitter has chosen among what waited (R180). -/
def Running (s : State) : Prop := s.inReset = false ∧ Settled s

/-- The part runs, no request waits, and the link can handle the next one at once: the reply slot is empty and no
accepted Reset waits to take effect (R176). -/
def LinkFree (s : State) : Prop :=
  Running s ∧ s.link.slot = none ∧ s.link.reply = none ∧ s.link.resetWaiting = false

/-- The body length that a request's kind admits (R190), given the body whose first byte may carry a count. -/
def admittedLength (kind : Byte) (body : List Byte) : Nat :=
  if kind = 0x12#8 then 4 + 16 * (body.getD 0 0#8).toNat
  else if kind = 0x21#8 then 4 + 20 * (body.getD 0 0#8).toNat
  else if kind = 0x05#8 ∨ kind = 0x20#8 ∨ kind = 0x23#8 then 4
  else if kind = 0x10#8 then 112
  else if kind = 0x18#8 then 8
  else if kind = 0x22#8 ∨ kind = 0x28#8 ∨ kind = 0x29#8 then 1
  else if kind = 0x31#8 then 6
  else if kind = 0x38#8 then 2
  else 0

/-- The body offsets that R190 marks reserved in a request, those inside its records among them. -/
def isReserved : Request → Nat → Prop
  | .setFormation _ _ _ _ records, n =>
    n = 1 ∨ n = 2 ∨ n = 3 ∨
      ∃ i, i < records.length ∧ (n = 4 + 16 * i + 3 ∨ n = 4 + 16 * i + 14 ∨ n = 4 + 16 * i + 15)
  | .addSegments _ _ _ _ records, n =>
    n = 1 ∨ n = 2 ∨ n = 3 ∨ ∃ i, i < records.length ∧ (n = 4 + 20 * i + 18 ∨ n = 4 + 20 * i + 19)
  | .resolveCapture .., n => n = 2 ∨ n = 3
  | .nodeTransfer .., n => n = 3
  | _, _ => False

/-- What a check of R5 after COUNT asks of the record at place i. -/
def passesCheck (records : List CarWire) (i : Nat) (w : CarWire) : Detail → Prop
  | .index => w.index.toNat = i
  | .range =>
    (w.tilting = 0#8 ∨ w.tilting = 1#8) ∧ (w.sensing = 0#8 ∨ w.sensing = 1#8) ∧ w.front.toNat ≤ 40000 ∧
    w.front.toNat + 1 ≤ w.rear.toNat ∧ w.rear.toNat ≤ w.front.toNat + 3000 ∧
    (w.tilting = 1#8 → w.lead.toNat ≤ 1000) ∧ (w.tilting = 0#8 → w.serial = 0#32 ∧ w.lead = 0#16)
  | .firstBogie => i = 0 → w.front = 0#16
  | .order => ∀ j p, j + 1 = i → records[j]? = some p →
    p.front.toNat ≤ w.front.toNat ∧ p.rear.toNat ≤ w.rear.toNat
  | .sensing => w.sensing = 1#8 →
    w.tilting = 1#8 ∧ ∀ (j : Nat) (p : CarWire), j < i → records[j]? = some p → p.sensing ≠ 1#8
  | .serial => w.tilting = 1#8 →
    ∀ (j : Nat) (p : CarWire), j < i → records[j]? = some p → p.tilting = 1#8 → p.serial ≠ w.serial
  | _ => True

/-- What R62 asks of field f of a segment record, its fields numbered from 1. -/
def passesField (w : SegmentWire) (f : Nat) : Prop :=
  (f = 1 → -2000000000 ≤ w.start.toInt ∧ w.start.toInt ≤ 2000000000) ∧
  (f = 2 → 100 ≤ w.length.toNat ∧ w.length.toNat ≤ 500000) ∧
  (f = 3 → w.curveStart.toInt.natAbs ≤ 20000) ∧ (f = 4 → w.curveStop.toInt.natAbs ≤ 20000) ∧
  (f = 5 → w.cantStart.toInt.natAbs ≤ 200) ∧ (f = 6 → w.cantStop.toInt.natAbs ≤ 200) ∧
  (f = 7 → w.cap = 0xFFFF#16 ∨ w.cap.toNat ≤ 10000)

/-- What a check of R70 after NO_BATCH asks of the count, the batch and the committed list. -/
def passesClose (count : Nat) (b : Batch) (committed : List Segment) : Detail → Prop
  | .count => count = b.staged.length
  | .start => ∃ g, b.staged.head? = some g ∧ g.start = b.declared
  | .gap => ∀ g, committed.getLast? = some g → g.start + g.length = b.declared
  | .order => ∀ (i : Nat) (g h : Segment), b.staged[i]? = some g → b.staged[i + 1]? = some h →
    h.start = g.start + g.length
  | .capacity => committed.length + b.staged.length ≤ 256
  | _ => True

/-- y is the quotient n / d rounded to the nearest integer, a half away from zero (conventions of 00_scope.md). -/
def IsRounded (y n d : Int) : Prop :=
  2 * (n - y * d).natAbs ≤ d.natAbs ∧ (2 * (n - y * d).natAbs = d.natAbs → n.natAbs < (y * d).natAbs)

/-- y is the quotient n / d rounded toward zero (conventions of 00_scope.md). -/
def IsTruncated (y n d : Int) : Prop :=
  (y * d).natAbs ≤ n.natAbs ∧ n.natAbs < (y * d).natAbs + d.natAbs ∧ 0 ≤ y * d * n

/-- Between the states s and t the store has evaluated the look-ahead L that stands in t (R81): the armed flag and the
GEOMETRY notice. -/
def LookAheadEvaluated (s t : State) : Prop :=
  ∀ L : Int, L = ((t.geo.committed.getLast?.map (fun g => g.start + g.length - t.odo.pos)).getD 0) →
    (s.geo.armed = true → L < s.params.lookLow → t.geo.armed = false ∧
      t.link.notices.geometry = { pending := true, flags := s.link.notices.geometry.flags ||| 1#16 }) ∧
    (s.geo.armed = true → (s.params.lookLow : Int) ≤ L →
      t.geo.armed = true ∧ t.link.notices.geometry = s.link.notices.geometry) ∧
    (s.geo.armed = false → (s.params.lookHigh : Int) < L →
      t.geo.armed = true ∧ t.link.notices.geometry = s.link.notices.geometry) ∧
    (s.geo.armed = false → L ≤ s.params.lookHigh →
      t.geo.armed = false ∧ t.link.notices.geometry = s.link.notices.geometry)

/-- The channel d is the channel c after a fault of the kind has been added (R134, R135). -/
def GainsFault (kind : FaultKind) (c d : Channel) : Prop :=
  (c.state = .notFitted → d = c) ∧
  (c.state ≠ .notFitted → c.state ≠ .failed →
    d = { c with state := .failed, theta := 0, step := 0, trackCount := 0, faults := c.faults.add kind,
                 firstFault := some kind, unreported := true }) ∧
  (c.state = .failed → c.faults.has kind = false →
    d = { c with faults := c.faults.add kind, unreported := true }) ∧
  (c.state = .failed → c.faults.has kind = true → d = c)

/-- Adding a fault of the kind to the channel changes it, so that the CARS notice is raised (R134, R135). -/
def isNews (kind : FaultKind) (c : Channel) : Bool :=
  c.state != .notFitted && !(c.state == .failed && c.faults.has kind)

/-- Between the states s and t a fault of the kind has been added to car k, whose channel was c (R127, R134, R135):
the CARS notice, the channels of the train, and under WHOLE the return of every FOLLOWING car once a car becomes
FAILED. -/
def AddsFault (kind : FaultKind) (k : Nat) (c : Channel) (s t : State) : Prop :=
  (∃ d, t.chans[k]? = some d ∧ GainsFault kind c d) ∧
  t.link.notices.cars =
    (if isNews kind c then { s.link.notices.cars with pending := true } else s.link.notices.cars) ∧
  t.chans.length = s.chans.length ∧
  ∀ j b, j ≠ k → s.chans[j]? = some b → t.chans[j]? = some
    (if s.params.faultPolicy = .whole ∧ c.state ≠ .failed ∧ c.state ≠ .notFitted ∧ b.state = .following then
      { b with state := .returning } else b)

/-- Between the states s and t the host link has counted one report of a completed computation (R183). -/
def CountsReport (s t : State) : Prop :=
  (s.link.period = 0 →
    t.link.countdown = s.link.countdown ∧ t.link.notices.telemetry = s.link.notices.telemetry) ∧
  (s.link.period ≠ 0 → 2 ≤ s.link.countdown →
    t.link.countdown = s.link.countdown - 1 ∧ t.link.notices.telemetry = s.link.notices.telemetry) ∧
  (s.link.period ≠ 0 → s.link.countdown = 1 →
    t.link.countdown = s.link.period ∧
    t.link.notices.telemetry = { s.link.notices.telemetry with pending := true })

/-- What follows in the cycle once the exchange with the line address a is over, 0 for the SET broadcast (R152, R154,
R156): ASK to the next address held, the cars' before the foreign nodes'; after the last, the entry at the head of the
maintenance queue as MREQ, or its completion CAR_UNBOUND and CALL; with none queued, CALL. The tables are read as they
stand in t, and s is the state before. -/
def FollowsAsk (s t : State) (a : Nat) : Prop :=
  ∀ held : Nat → Prop,
    (∀ b, held b ↔ (1 ≤ b ∧ b ≤ 12 ∧ isBound t (b - 1) = true) ∨ (13 ≤ b ∧ t.line.foreign.get b ≠ none)) →
    (∀ b, a < b → b ≤ 15 → held b → (∀ c, a < c → c < b → ¬held c) →
      t.line.exch = .echo (.ask b) ∧ t.line.maint = s.line.maint ∧ t.link.completions = s.link.completions) ∧
    ((∀ b, a < b → b ≤ 15 → ¬held b) →
      (s.line.maint = [] → t.line.exch = .echo .call ∧ t.line.maint = [] ∧
        t.link.completions = s.link.completions) ∧
      (∀ e rest, s.line.maint = e :: rest →
        (isBound t e.car = true →
          t.line.exch = .echo (.mreq (e.car + 1) e.write e.item e.value) ∧ t.line.maint = s.line.maint ∧
          t.link.completions = s.link.completions) ∧
        (isBound t e.car = false →
          t.line.exch = .echo .call ∧ t.line.maint = rest ∧
          t.link.completions = s.link.completions ++
            [{ kind := 0xB1#8, tag := e.tag, body := [13, 0, 0, 0, 0, 0, 0, 0] }])))

/-- The value of field i + 1 of a SetParameters lies within its fixed range (R10, first pass). -/
def insideRange (v : Vector Word 28) (i : Fin 28) : Bool :=
  decide ((paramRanges.getD i (0, 0)).1 ≤ v[i].toNat ∧ v[i].toNat ≤ (paramRanges.getD i (0, 0)).2)

/-- The unsigned field of `n` bytes at an offset of a body, least significant byte first (R187). -/
def natAt : Nat → Nat → List Byte → Nat
  | 0, _, _ => 0
  | n + 1, offset, body => (body.getD offset 0#8).toNat + 256 * natAt n (offset + 1) body

/-- The two's complement field of `n` bytes at an offset of a body (R187). -/
def intAt (n offset : Nat) (body : List Byte) : Int :=
  let x := natAt n offset body
  if x < 2 ^ (8 * n - 1) then x else (x : Int) - 2 ^ (8 * n)

/-- A character received without any mark. -/
def cleanChar (b : Byte) : RxChar := { data := b, parity := false, framing := false, overrun := false, gap := false }

/-- Characters taken one after another by the assembler. -/
def assembleAll (cs : List RxChar) (s : State) : State := cs.foldl (fun t c => assemble c t) s

/-- The raw distance of a channel at a slot: its increment times its pulse distance (R39). -/
def rawDistance (s : State) (n : TachoName) : Int := (s.odo.tacho n).increment * s.params.pulseDistance n

/-- The silent-slot count of a channel after the measurement of a slot (R39). -/
def silentAfter (s : State) (n : TachoName) : Nat :=
  if (s.odo.tacho n).increment = 0 then countUp (s.odo.tacho n).silent Config.silentLimit else 0

/-- The channel speed after the measurement of a slot (R38, R39). -/
def speedAfter (s : State) (n : TachoName) : Nat :=
  min Config.speedCeiling ((((s.odo.tacho n).window.drop 1).sum + rawDistance s n).natAbs / 1000)

/-- Whether a channel is FAILED after the failure test of a slot (R40). -/
def failedAfter (s : State) (n : TachoName) : Bool :=
  (s.odo.tacho n).failed ||
    (silentAfter s n == Config.silentLimit && decide (Config.failureSpeed ≤ speedAfter s (otherTacho n)))

/-- The two GOOD channels of a slot agree (R42). -/
def slotAgrees (s : State) : Bool := decide (
  ((rawDistance s .a - rawDistance s .b).natAbs : Int) * 1000 ≤
    ((max (rawDistance s .a).natAbs (rawDistance s .b).natAbs : Nat) : Int) * s.params.slideTolerance +
      max (s.params.pulseDistance .a) (s.params.pulseDistance .b) * 1000)

/-- The slot distance that R41 and R42 choose. -/
def slotDistance (s : State) : Int :=
  if failedAfter s .a then (if failedAfter s .b then 0 else rawDistance s .b)
  else if failedAfter s .b then rawDistance s .a
  else if slotAgrees s then truncated (rawDistance s .a + rawDistance s .b) 2
  else if (rawDistance s .a).natAbs < (rawDistance s .b).natAbs then rawDistance s .a
  else if (rawDistance s .b).natAbs < (rawDistance s .a).natAbs then rawDistance s .b
  else 0

/-- The slot is a slide (R42). -/
def isSlide (s : State) : Bool := !failedAfter s .a && !failedAfter s .b && !slotAgrees s

/-- The uncertainty after a slot of a run (R44). -/
def slotUncertainty (s : State) : Nat :=
  if failedAfter s .a && failedAfter s .b then 1000000000
  else min 1000000000 (s.odo.u +
    if failedAfter s .a || failedAfter s .b then (slotDistance s).natAbs * 2 * s.params.drift / 1000
    else (if slotAgrees s then 0 else (rawDistance s .a - rawDistance s .b).natAbs) +
      (slotDistance s).natAbs * s.params.drift / 1000)


end Sys2Proof.Machine
end

