-- ==== Sys2Proof/Certificates/Slice0/Obligations.lean ====
section
/-! DEFINITION. The statements about the TC612 for the provers. Where a conclusion reads `.next (chooseIfIdle t)`, the
state `t` is what the command's own effect leaves; an idle transmitter then takes what waits in it, as
TheTransmitterChoosesAndResetTakesEffect states (R180; log entry 3). -/

open Sys2Proof Sys2Proof.Machine

/-! ## The machine and its frames -/

/-- A step takes the command at the front of the queue and runs it on the state with the queue's rest; with nothing
waiting the part idles. The queue and the idling are the model's choice (log entry 1). -/
def Obligations.StepRunsTheFrontCommand : Prop :=
  ∀ (s : State), (∀ c rest, s.pending = c :: rest → step s = exec c { s with pending := rest }) ∧
    (s.pending = [] → step s = .next s)

/-- No command stops the part, and no command but the step itself touches the queue (log entry 1): the part has no
fault and refuses requests only by their replies (R176, R189). While RESET_N is held low nothing but its own line
reaches the part (R35; log entry 6). -/
def Obligations.EveryCommandAnswersNextAndKeepsTheQueue : Prop :=
  ∀ (c : Instr) (s : State), (∃ t, exec c s = .next t ∧ t.pending = s.pending) ∧
    (s.inReset = true → (∀ pins, c ≠ .resetN pins) → c ≠ .resetNAsserted → exec c s = .next s)

/-- The link reads from a request's frame exactly the request it was built from, every field at every value (R188,
R190). -/
def Obligations.RequestFramesDecodeToTheirRequest : Prop :=
  ∀ (tag : Byte) (r : Request), lengthAgrees r = true → decodeFrame (requestFrame tag r) = .request r

/-- The model's choice of what a request's command stands for (log entry 11): the good end of the frame that carries
it. Whatever the frame and the state, the command does what that frame does through the link; a frame whose count of
records does not give its length is answered BAD_LENGTH either way (R174, R176, R190). -/
def Obligations.RequestCommandsActAsTheirFrames : Prop :=
  ∀ (c : Instr) (f : Frame) (s : State), commandFrame c = some f → exec c s = act (acceptFrame f) s

/-- A frame built as R188 gives, its characters taken without marks by a hunting assembler, ends good and is accepted
whole (R173, R174, R188). -/
def Obligations.CleanFramesAreAssembledWhole : Prop :=
  ∀ (f : Frame) (s : State), f.body.length ≤ 248 → s.link.asm = .hunt →
    assembleAll ((frameBytes f).map cleanChar) s = acceptFrame f s

/-! ## Laws that every step keeps -/

/-- Every law of Safety.lean holds right after reset (R17, R32, R86, R97, R121, R142, R143, R185). -/
def Obligations.EveryLawHoldsAtReset : Prop :=
  ModeLaw State.reset ∧ RunLaw State.reset ∧ ChannelLaw State.reset ∧ FaultLaw State.reset ∧
  CentreLaw State.reset ∧ FormationLaw State.reset ∧ TableLaw State.reset ∧ BindingLaw State.reset ∧
  BoundLaw State.reset ∧ ForeignLaw State.reset ∧ ParamsLaw State.reset ∧ OdometerLaw State.reset ∧
  CaptureLaw State.reset ∧ RingLaw State.reset ∧ GeometryLaw State.reset ∧ DeferredLaw State.reset ∧
  LineLaw State.reset ∧ LinkLaw State.reset

/-- The mode ladder: no run in SETUP, a run over a CYCLING line in ACTIVE and INHIBITED, ACTIVE with the inhibit
released and the latch clear (R17, R25 to R31). -/
def Obligations.StepsKeepTheModeLadder : Prop :=
  ∀ (s t : State), ModeLaw s → step s = .next t → ModeLaw t

/-- Without a run there is no capture, no route geometry, no open batch, no armed look-ahead and no sample (R24, R60,
R85, R96). -/
def Obligations.StepsKeepRunStateInRuns : Prop :=
  ∀ (s t : State), RunLaw s → step s = .next t → RunLaw t

/-- Set-points: 0 outside FOLLOWING and RETURNING, FOLLOWING in ACTIVE alone, no RETURNING car in SETUP, and no
set-point beyond thetaMax nor step beyond sMax (R120, R126, R130). -/
def Obligations.StepsKeepSetPointsWithinLimits : Prop :=
  ∀ (s t : State), ChannelLaw s → step s = .next t → ChannelLaw t

/-- Exactly the FAILED cars hold faults, with a first fault among them (R119, R134, R135). -/
def Obligations.StepsKeepFaultsWithFailedCars : Prop :=
  ∀ (s t : State), FaultLaw s → step s = .next t → FaultLaw t

/-- CENTRE_OK stands at the level that the conditions of R32 give, after every command (R33). -/
def Obligations.StepsKeepCentreConfirmTrue : Prop :=
  ∀ (s t : State), CentreLaw s → step s = .next t → CentreLaw t

/-- The formation in force always passes the checks of R5; every parameter stays within its range and the two cross
checks hold (R1, R5, R6, R9, R10). -/
def Obligations.StepsKeepFormationAndParametersValid : Prop :=
  ∀ (s t : State), FormationLaw s → ParamsLaw s → step s = .next t → FormationLaw t ∧ ParamsLaw t

/-- The per-car tables have one entry per car; a node is bound to the car of its serial at its own address; the
channel states follow the bindings; a foreign address holds a serial that is no car's, under a formation that passes
its checks, as every step keeps it (R3, R120, R143, R149, R155, R160, R161). -/
def Obligations.StepsKeepBindingsInOrder : Prop :=
  ∀ (s t : State), FormationLaw s → TableLaw s → BindingLaw s → BoundLaw s → ForeignLaw s → step s = .next t →
    TableLaw t ∧ BindingLaw t ∧ BoundLaw t ∧ ForeignLaw t

/-- P, ρ, u, the windows and the counts stay within their ranges, and the history ring stays in strict route order
with at most 1,024 samples (R43, R44, R45, R87, R89, R91). -/
def Obligations.StepsKeepOdometerAndRingInRange : Prop :=
  ∀ (s t : State), ParamsLaw s → OdometerLaw s → RingLaw s → step s = .next t → OdometerLaw t ∧ RingLaw t

/-- The capture list holds at most eight records in rising number order, all below the next number (R50, R51, R52,
R55). -/
def Obligations.StepsKeepCapturesNumbered : Prop :=
  ∀ (s t : State), CaptureLaw s → step s = .next t → CaptureLaw t

/-- The committed list stays gap-free with at most 256 records, none of them empty, and the staging area holds at most
32 (R64, R67, R70, R74, R78). -/
def Obligations.StepsKeepTheRouteGapFree : Prop :=
  ∀ (s t : State), GeometryLaw s → step s = .next t → GeometryLaw t

/-- At most four NodeTransfers and one RollCall are outstanding, so at most five completions wait; a muster is in
progress exactly while the line is MUSTERING (R148, R150, R165, R166, R178). A NodeTransfer counts until the
transmitter has taken its completion, which is the model's reading of R166 (log entry 16). -/
def Obligations.StepsKeepDeferredWorkBounded : Prop :=
  ∀ (s t : State), DeferredLaw s → step s = .next t → DeferredLaw t

/-- The echo counts, the parked list and the alert queue stay within their capacities; an idle transmitter leaves
nothing waiting but the MODE notice of a reset just ended; no request waits that the link could handle; the FIFO, the
counters and telemetry stay within their ranges; a frame being collected has the length it announced (R143, R146,
R163, R171, R173, R175, R176, R177, R180, R183, R185; when an idle transmitter chooses: log entry 3). -/
def Obligations.StepsKeepQueuesAndCountersBounded : Prop :=
  ∀ (s t : State), LineLaw s → LinkLaw s → step s = .next t → LineLaw t ∧ LinkLaw t

/-- Each node serial stands in at most one entry of the binding table and the foreign-node table together, under the
laws that every step keeps (R143). -/
def Obligations.EachSerialHoldsOneAddress : Prop :=
  ∀ (s : State), FormationLaw s → BindingLaw s → ForeignLaw s →
    (∀ j k x, boundSerial s j = some x → boundSerial s k = some x → j = k) ∧
    (∀ a b x, s.line.foreign.get a = some x → s.line.foreign.get b = some x → a = b) ∧
    (∀ k a x, boundSerial s k = some x → s.line.foreign.get a ≠ some x)

/-! ## The link and its requests -/

/-- A good frame that finds the request slot occupied is dropped and counted refused; one that finds it empty while
the link cannot handle it waits there; nothing else changes (R174, R175, R176). That a request's command is the good
end of its frame is the model's choice (log entry 11). -/
def Obligations.FramesWaitOrAreRefusedAtTheSlot : Prop :=
  ∀ (c : Instr) (f : Frame) (s : State), commandFrame c = some f → Running s →
    s.link.reply ≠ none ∨ s.link.resetWaiting = true →
    (s.link.slot ≠ none →
      exec c s = .next { s with link := { s.link with refused := countUp s.link.refused 65535 } }) ∧
    (s.link.slot = none → exec c s = .next { s with link := { s.link with slot := some f } })

/-- The link's own checks in order: an unknown kind, a body of a length that the kind does not admit, a mode that does
not admit the request, a reserved byte that is not zero, the first of them named by its body offset. Each is answered
at once, and nothing but the reply slot changes (R174, R176, R188, R189, R190). Which modes and run states admit each
request stands after them (R4, R10, R18, R54, R66, R148). -/
def Obligations.TheLinkRefusesInOrder : Prop :=
  (∀ (r : Request),
    (reservedFault r = none ↔ ∀ n, isReserved r n → (requestBody r)[n]? = some 0#8) ∧
    (∀ n, reservedFault r = some n ↔
      isReserved r n ∧ (requestBody r)[n]? ≠ some 0#8 ∧
      ∀ m, m < n → isReserved r m → (requestBody r)[m]? = some 0#8)) ∧
  (∀ (f : Frame),
    (decodeFrame f = .unknownKind ↔ requestCodes.contains f.kind = false) ∧
    (decodeFrame f = .badLength ↔
      requestCodes.contains f.kind = true ∧ f.body.length ≠ admittedLength f.kind f.body)) ∧
  (∀ (f : Frame) (s : State), requestCodes.contains f.kind = true → f.body.length ≠ admittedLength f.kind f.body →
    handleFrame f s = s.respond { kind := f.kind + 0x80#8, tag := f.tag, body := [2, 0, 0, 0] }) ∧
  ∀ (s : State), LinkFree s →
    (∀ (f : Frame) c rest buffer, f.body.length ≤ 248 → requestCodes.contains f.kind = true →
      f.body.length ≠ admittedLength f.kind f.body → s.link.fifo = c :: rest → c.gap = false → c.isMarked = false →
      s.link.asm = .collect buffer 1 false →
      buffer ++ [c.data] = coveredBytes f ++ bytes2 (crc16 (coveredBytes f)) →
      exec .frameEnd s = .next (chooseIfIdle
        (({ s with link := { s.link with fifo := rest, asm := .hunt } }).respond
          { kind := f.kind + 0x80#8, tag := f.tag, body := [2, 0, 0, 0] }))) ∧
    (∀ kind tag body, requestCodes.contains kind = false →
      exec (.unknownKind kind tag body) s =
        .next (chooseIfIdle (s.respond { kind := 0xFF#8, tag := tag, body := [1, 0, 0, 0] }))) ∧
    (∀ c tag r, commandRequest c = some (tag, r) →
      (lengthAgrees r = false →
        exec c s =
          .next (chooseIfIdle (s.respond { kind := requestCode r + 0x80#8, tag := tag, body := [2, 0, 0, 0] }))) ∧
      (lengthAgrees r = true → admitted r s = false →
        exec c s =
          .next (chooseIfIdle (s.respond { kind := requestCode r + 0x80#8, tag := tag, body := [4, 0, 0, 0] }))) ∧
      (∀ offset, lengthAgrees r = true → admitted r s = true → reservedFault r = some offset →
        exec c s =
          .next (chooseIfIdle
            (s.respond { kind := requestCode r + 0x80#8, tag := tag, body := [3, 22] ++ u16 offset })))) ∧
    (admitted .commission s = true ↔ s.ctl.mode = .setup) ∧
    (∀ v, admitted (.setParameters v) s = true ↔ s.ctl.mode = .setup) ∧
    (∀ n a b c l, admitted (.setFormation n a b c l) s = true ↔ s.ctl.mode = .setup) ∧
    (admitted .returnToSetup s = true ↔ s.ctl.mode = .standby ∧ s.ctl.run = false) ∧
    (∀ x, admitted (.startRun x) s = true ↔ s.ctl.mode = .standby ∧ s.ctl.run = false) ∧
    (admitted .endRun s = true ↔ s.ctl.mode = .standby ∧ s.ctl.run = true) ∧
    (admitted .enableTilt s = true ↔ s.ctl.mode = .standby ∧ s.ctl.run = true) ∧
    (admitted .disableTilt s = true ↔ s.ctl.mode = .active ∨ s.ctl.mode = .inhibited) ∧
    (admitted .resumeTilt s = true ↔ s.ctl.mode = .inhibited) ∧
    (admitted .rollCall s = true ↔ s.ctl.mode = .setup ∨ s.ctl.mode = .standby) ∧
    (∀ r, (∃ n a b x, r = .resolveCapture n a b x) ∨ (∃ x, r = .openBatch x) ∨
        (∃ n a b c l, r = .addSegments n a b c l) ∨ (∃ n, r = .closeBatch n) ∨ (∃ x, r = .truncateGeometry x) →
      (admitted r s = true ↔ s.ctl.run = true)) ∧
    (∀ r, r = .identify ∨ r = .queryStatus ∨ r = .reset ∨ r = .getParameters ∨ r = .getFormation ∨
        r = .queryPosition ∨ r = .queryGeometry ∨ r = .readAlerts ∨ (∃ k, r = .queryCar k) ∨
        (∃ k, r = .clearCarFault k) ∨ (∃ k d i z v, r = .nodeTransfer k d i z v) ∨ (∃ p, r = .setReporting p) →
      admitted r s = true)

/-- The six queries that change nothing: each is answered OK at once, with a body of the length that R191 gives (R7,
R15, R19, R20, R58, R83). -/
def Obligations.QueriesAnswerOkAndChangeNothing : Prop :=
  ∀ (s : State) (tag : Byte), LinkFree s →
    (∃ b, exec (.identify tag) s = .next (chooseIfIdle (s.respond (okFrame 0x01#8 tag b))) ∧ b.length = 22) ∧
    (∃ b, exec (.queryStatus tag) s = .next (chooseIfIdle (s.respond (okFrame 0x02#8 tag b))) ∧ b.length = 22) ∧
    (∃ b, exec (.getParameters tag) s = .next (chooseIfIdle (s.respond (okFrame 0x11#8 tag b))) ∧ b.length = 124) ∧
    (∃ b, exec (.getFormation tag) s = .next (chooseIfIdle (s.respond (okFrame 0x13#8 tag b))) ∧
      b.length = 12 + 16 * s.cars.length) ∧
    (∃ b, exec (.queryPosition tag) s = .next (chooseIfIdle (s.respond (okFrame 0x19#8 tag b))) ∧
      b.length = 36 + 8 * s.odo.captures.length) ∧
    (∃ b, exec (.queryGeometry tag) s = .next (chooseIfIdle (s.respond (okFrame 0x24#8 tag b))) ∧ b.length = 28)

/-- Identify answers the fixed figures of the part with the rate code and its speed; QueryStatus answers the state of
the mode controller and its neighbours, each read back from its field (R19, R20, R34, R191). -/
def Obligations.StatusRepliesCarryTheState : Prop :=
  ∀ (s : State) (tag : Byte), LinkFree s → LinkLaw s → FormationLaw s → TableLaw s →
    (∃ f, exec (.identify tag) s =
      .next (chooseIfIdle (s.respond f)) ∧ f.kind = 0x81#8 ∧ f.tag = tag ∧ f.body.take 4 = [0, 0, 0, 0] ∧
      natAt 2 4 f.body = 0x0612 ∧ natAt 1 6 f.body = 1 ∧ natAt 1 7 f.body = 0 ∧
      (s.ctl.rateCode ≤ 3 → natAt 1 8 f.body = s.ctl.rateCode ∧
        natAt 4 10 f.body = 115200 * 2 ^ s.ctl.rateCode) ∧
      natAt 1 14 f.body = 12 ∧ natAt 1 15 f.body = 8 ∧ natAt 1 16 f.body = 8 ∧ natAt 1 17 f.body = 4 ∧
      natAt 2 18 f.body = 256 ∧ natAt 2 20 f.body = 32 ∧ natAt 2 22 f.body = 1024) ∧
    (∃ f, exec (.queryStatus tag) s = .next (chooseIfIdle (s.respond f)) ∧ f.kind = 0x82#8 ∧ f.tag = tag ∧
      f.body.take 4 = [0, 0, 0, 0] ∧ natAt 1 4 f.body = (modeCode s.ctl.mode).toNat ∧
      (natAt 1 5 f.body = 1 ↔ s.ctl.run = true) ∧ (natAt 1 6 f.body = 1 ↔ s.ctl.inhibit = true) ∧
      (natAt 1 7 f.body = 1 ↔ s.ctl.latch = true) ∧ (natAt 1 8 f.body = 1 ↔ s.ctl.centreOk = true) ∧
      natAt 1 9 f.body = (causeCode s.ctl.cause).toNat ∧ (natAt 1 10 f.body = 1 ↔ s.cars ≠ []) ∧
      natAt 1 11 f.body = s.cars.length ∧ natAt 1 12 f.body = (lineStateCode s.line.state).toNat ∧
      (∀ x, natAt 1 (14 + (chanStateCode x).toNat) f.body = s.chans.countP (fun c => c.state == x)) ∧
      natAt 2 20 f.body = s.link.bad ∧ natAt 2 22 f.body = s.link.broken ∧ natAt 2 24 f.body = s.link.refused)

/-- QueryPosition answers the odometer's state, each quantity read back from its field; QueryGeometry answers the
extent of the route, the batch and the look-ahead, positions saturated at the ends of their range (R46, R58, R80, R83,
R187, R191). -/
def Obligations.PositionAndGeometryRepliesCarryTheirState : Prop :=
  ∀ (s : State) (tag : Byte), LinkFree s →
    (ParamsLaw s → OdometerLaw s → CaptureLaw s →
      ∃ f, exec (.queryPosition tag) s = .next (chooseIfIdle (s.respond f)) ∧ f.kind = 0x99#8 ∧ f.tag = tag ∧
        f.body.take 4 = [0, 0, 0, 0] ∧ (natAt 1 4 f.body = 1 ↔ s.ctl.run = true) ∧
        (natAt 1 5 f.body = 1 ↔ s.odo.trust = true) ∧ natAt 2 6 f.body = s.odo.nextNumber.getD 0 ∧
        intAt 4 8 f.body = s.odo.pos ∧ (natAt 2 12 f.body : Int) = s.odo.rho ∧ natAt 2 14 f.body = s.odo.v ∧
        natAt 4 16 f.body = s.odo.uCm ∧ (natAt 1 20 f.body = 1 ↔ s.odo.tachoA.failed = true) ∧
        natAt 1 21 f.body = s.odo.tachoA.silent ∧ natAt 2 22 f.body = s.odo.tachoA.speed ∧
        (natAt 4 24 f.body : Int) = s.params.pulseDistance .a ∧
        (natAt 1 28 f.body = 1 ↔ s.odo.tachoB.failed = true) ∧ natAt 1 29 f.body = s.odo.tachoB.silent ∧
        natAt 2 30 f.body = s.odo.tachoB.speed ∧ (natAt 4 32 f.body : Int) = s.params.pulseDistance .b ∧
        natAt 1 36 f.body = s.odo.captures.length ∧
        (∀ i c, s.odo.captures[i]? = some c → natAt 2 (40 + 8 * i) f.body = c.number ∧
          natAt 2 (42 + 8 * i) f.body = min c.speed 65535 ∧ intAt 4 (44 + 8 * i) f.body = saturatePos c.position)) ∧
    (GeometryLaw s →
      ∃ f, exec (.queryGeometry tag) s = .next (chooseIfIdle (s.respond f)) ∧ f.kind = 0xA4#8 ∧ f.tag = tag ∧
        f.body.take 4 = [0, 0, 0, 0] ∧ (natAt 1 4 f.body = 1 ↔ s.geo.committed ≠ []) ∧
        (natAt 1 5 f.body = 1 ↔ s.geo.committed ≠ []) ∧ (natAt 1 6 f.body = 1 ↔ s.geo.batch ≠ none) ∧
        (natAt 1 7 f.body = 1 ↔ s.geo.batch ≠ none) ∧ natAt 2 8 f.body = s.geo.committed.length ∧
        natAt 2 10 f.body = 256 - s.geo.committed.length ∧
        natAt 1 12 f.body = ((s.geo.batch.map (fun b => b.staged.length)).getD 0) ∧
        (natAt 1 13 f.body = 1 ↔ s.geo.armed = true) ∧
        intAt 4 16 f.body = saturatePos ((s.geo.committed.head?.map Segment.start).getD 0) ∧
        intAt 4 20 f.body = saturatePos ((s.geo.committed.getLast?.map Segment.stop).getD 0) ∧
        intAt 4 24 f.body = saturatePos ((s.geo.batch.map Batch.declared).getD 0) ∧
        intAt 4 28 f.body =
          saturatePos ((s.geo.committed.getLast?.map (fun g => g.stop - s.odo.pos)).getD 0))

/-- The two passes of R10: outside SETUP a SetParameters is refused WRONG_MODE. In SETUP the first value outside its
range, then the two cross checks, refuse it with the number of the field and change nothing; a set that passes both is
in force whole. `paramsFault` says which sets pass. -/
def Obligations.ParametersAreCheckedInTwoPasses : Prop :=
  ∀ (v : Vector Word 28),
    (paramsFault v = none ↔ (∀ i, insideRange v i = true) ∧
      v[10].toNat ≤ v[9].toNat ∧ v[9].toNat ≤ v[8].toNat ∧ v[20].toNat < v[21].toNat) ∧
    (∀ (s : State) (tag : Byte), LinkFree s →
      (s.ctl.mode ≠ .setup →
        exec (.setParameters tag v) s =
          .next (chooseIfIdle (s.respond { kind := 0x90#8, tag := tag, body := [4, 0, 0, 0] }))) ∧
      (s.ctl.mode = .setup →
        (∀ n, (∀ i, i < n → insideRange v i = true) → insideRange v n = false →
          exec (.setParameters tag v) s =
            .next (chooseIfIdle (s.respond { kind := 0x90#8, tag := tag, body := [3, 22] ++ u16 (n.val + 1) }))) ∧
        ((∀ i, insideRange v i = true) → ¬(v[10].toNat ≤ v[9].toNat ∧ v[9].toNat ≤ v[8].toNat) →
          exec (.setParameters tag v) s =
            .next (chooseIfIdle (s.respond { kind := 0x90#8, tag := tag, body := [3, 22, 10, 0] }))) ∧
        ((∀ i, insideRange v i = true) → v[10].toNat ≤ v[9].toNat → v[9].toNat ≤ v[8].toNat →
          v[21].toNat ≤ v[20].toNat →
          exec (.setParameters tag v) s =
            .next (chooseIfIdle (s.respond { kind := 0x90#8, tag := tag, body := [3, 22, 22, 0] }))) ∧
        ((∀ i, insideRange v i = true) → v[10].toNat ≤ v[9].toNat → v[9].toNat ≤ v[8].toNat →
          v[20].toNat < v[21].toNat →
          ∃ t b, exec (.setParameters tag v) s = .next (chooseIfIdle t) ∧ t.params = paramsOf v ∧
            t.link.reply = some (okFrame 0x10#8 tag b))))

/-- An accepted SetParameters replaces the whole set, answers the derived constants and leaves the rest of the part as
it stands but for CENTRE_OK; a GetParameters while the set is in force returns the very bytes of the request (R11,
R12, R13, R14, R15). -/
def Obligations.AcceptedParametersAreInForceAndReadBack : Prop :=
  ∀ (s : State) (tag : Byte) (v : Vector Word 28), LinkFree s → CentreLaw s → s.ctl.mode = .setup →
    paramsFault v = none →
    ∃ t b, exec (.setParameters tag v) s = .next (chooseIfIdle t) ∧
      t = { s with
            params := paramsOf v
            ctl := { s.ctl with centreOk := centreConditions { s with params := paramsOf v } }
            link := { s.link with reply := some (okFrame 0x10#8 tag b) } } ∧
      b.length = 12 ∧ natAt 2 0 b = v[4].toNat * 20 / 1000 ∧
      natAt 2 2 b = max 1 (v[5].toNat * 400 / 1000000) ∧
      (natAt 4 4 b : Int) = rounded (v[13].toNat * 1000) v[15].toNat ∧
      (natAt 4 8 b : Int) = rounded (v[14].toNat * 1000) v[16].toNat ∧
      (∀ w tag2, LinkFree w → w.params = t.params →
        exec (.getParameters tag2) w = .next (chooseIfIdle
          (w.respond (okFrame 0x11#8 tag2 (requestBody (.setParameters v) ++ b)))))

/-- The checks of R5: a formation of the announced count passes exactly when every record does; otherwise the check
reported is the first in the order of the table that some record fails, COUNT before all others, and the car reported
is the first that fails it, by its position in the request. That the position is what check INDEX reports is the
model's choice (log entry 17). -/
def Obligations.FormationsPassExactlyTheirChecks : Prop :=
  ∀ (records : List CarWire),
    (records.length = 0 ∨ 12 < records.length → formationFault records.length records = some (.count, 0)) ∧
    (∀ (n k : Nat) (d : Detail) (w : CarWire), 1 ≤ records.length → records.length ≤ 12 →
      [Detail.index, .range, .firstBogie, .order, .sensing, .serial][n]? = some d → records[k]? = some w →
      (∀ (m : Nat) (e : Detail), m < n →
        [Detail.index, .range, .firstBogie, .order, .sensing, .serial][m]? = some e →
        ∀ (i : Nat) (x : CarWire), records[i]? = some x → passesCheck records i x e) →
      (∀ (i : Nat) (x : CarWire), i < k → records[i]? = some x → passesCheck records i x d) →
      ¬passesCheck records k w d → formationFault records.length records = some (d, k)) ∧
    (formationFault records.length records = none ↔
      (1 ≤ records.length ∧ records.length ≤ 12) ∧
      (∀ (i : Nat) (w : CarWire), records[i]? = some w → w.index.toNat = i) ∧
      (∀ w ∈ records, (w.tilting = 0#8 ∨ w.tilting = 1#8) ∧ (w.sensing = 0#8 ∨ w.sensing = 1#8) ∧
        w.front.toNat ≤ 40000 ∧ w.front.toNat + 1 ≤ w.rear.toNat ∧ w.rear.toNat ≤ w.front.toNat + 3000 ∧
        (w.tilting = 1#8 → w.lead.toNat ≤ 1000) ∧ (w.tilting = 0#8 → w.serial = 0#32 ∧ w.lead = 0#16)) ∧
      (∀ w, records[0]? = some w → w.front = 0#16) ∧
      (∀ (i : Nat) (w x : CarWire), records[i]? = some w → records[i + 1]? = some x →
        w.front.toNat ≤ x.front.toNat ∧ w.rear.toNat ≤ x.rear.toNat) ∧
      (∀ w ∈ records, w.sensing = 1#8 → w.tilting = 1#8) ∧
      (∀ (i j : Nat) (w x : CarWire), i < j → records[i]? = some w → records[j]? = some x → ¬(w.sensing = 1#8 ∧
        x.sensing = 1#8)) ∧
      (∀ (i j : Nat) (w x : CarWire), i < j → records[i]? = some w → records[j]? = some x →
        w.tilting = 1#8 → x.tilting = 1#8 → w.serial ≠ x.serial))

/-- SetFormation in SETUP: while the line is MUSTERING it is refused BUSY; a formation that fails a check is refused
with the first check that fails and the first car that fails it (FormationsPassExactlyTheirChecks says which); an
accepted one replaces the table, makes every channel and planner record anew, ends every binding, flushes the
maintenance queue, clears the exhaustion latch and the echo count and stops the line, and nothing else changes (R4,
R5, R6, R100, R117, R121, R143). That a frame being sent is only cut off and that a delivered target list stays are
the model's reading (log entries 8 and 12); which number check INDEX reports is its choice (log entry 17). -/
def Obligations.SetFormationReplacesTheTrain : Prop :=
  ∀ (s : State) (tag count r1 r2 r3 : Byte) (records : List CarWire), LinkFree s → s.ctl.mode = .setup →
    records.length = count.toNat → reservedFault (.setFormation count r1 r2 r3 records) = none →
    (s.line.state = .mustering →
      exec (.setFormation tag count r1 r2 r3 records) s =
        .next (chooseIfIdle (s.respond { kind := 0x92#8, tag := tag, body := [5, 0, 0, 0] }))) ∧
    (s.line.state ≠ .mustering →
      (∀ d k, formationFault count.toNat records = some (d, k) →
        exec (.setFormation tag count r1 r2 r3 records) s =
          .next (chooseIfIdle (s.respond { kind := 0x92#8, tag := tag, body := [3, detailByte d] ++ u16 k }))) ∧
      (formationFault count.toNat records = none →
        exec (.setFormation tag count r1 r2 r3 records) s = .next (chooseIfIdle
            { s with
              cars := records.map carOfWire
              chans := records.map (fun w =>
                { state := if w.tilting = 1#8 then .absent else .notFitted, theta := 0, step := 0, sent := 0,
                  angle := none, cond := none, flags := noNodeFlags, trackCount := 0, faults := .empty,
                  firstFault := none, unreported := false })
              plan := { s.plan with
                        records := records.map (fun _ =>
                          { target := 0, source := .none, front := none, rear := none, fallback := false })
                        exhausted := false }
              line := { s.line with
                        state := .off, nodes := records.map (fun _ => { serial := none, miss := 0 }),
                        foreign := .empty, maint := [], echoCount := 0, exch := s.line.exch.cutOff }
              ctl := { s.ctl with centreOk := false }
              link := { s.link with
                        completions :=
                          s.link.completions ++ s.line.maint.map (fun e => transferFrame e .lineStopped 0#16)
                        reply := some { kind := 0x92#8, tag := tag, body := [0, 0, 0, 0] } } })))

/-- GetFormation returns the car records that SetFormation brought, byte for byte, with the figures of R2; the tilting
count, which it does not carry, is theirs too. While no formation exists it answers count 0, no sensing car, no
records and the other figures 0. The figures that the other blocks read are the ones it answers (R2, R7, R190, R191).
-/
def Obligations.GetFormationReturnsTheRecords : Prop :=
  (∀ (s : State) (tag : Byte), LinkFree s → s.cars = [] →
    exec (.getFormation tag) s =
      .next (chooseIfIdle (s.respond (okFrame 0x13#8 tag [0, 0xFF, 0, 0, 0, 0, 0, 0, 0, 0, 0, 0]))) ∧
    tailOffset s = 0 ∧ largestLead s = 0 ∧ sensingCar s = none ∧ tiltingCount s = 0) ∧
  ∀ (s : State) (tag count : Byte) (records : List CarWire), LinkFree s → records.length = count.toNat →
    reservedFault (.setFormation count 0#8 0#8 0#8 records) = none →
    formationFault count.toNat records = none → s.cars = records.map carOfWire →
    ∃ b, exec (.getFormation tag) s = .next (chooseIfIdle (s.respond (okFrame 0x13#8 tag b))) ∧
      b.drop 12 = records.flatMap carBytes ∧ natAt 1 0 b = records.length ∧
      (∀ k, natAt 1 1 b = k ∧ k < 12 → ∃ w, records[k]? = some w ∧ w.sensing = 1#8) ∧
      (natAt 1 1 b = 255 ↔ ∀ w ∈ records, w.sensing = 0#8) ∧
      (∀ w, records.getLast? = some w → intAt 4 4 b = w.rear.toNat) ∧
      (∀ w ∈ records, w.lead.toNat ≤ natAt 2 8 b) ∧
      (natAt 2 8 b = 0 ∨ ∃ w ∈ records, w.lead.toNat = natAt 2 8 b) ∧
      tailOffset s = intAt 4 4 b ∧ largestLead s = natAt 2 8 b ∧
      (∀ k, sensingCar s = some k ↔ natAt 1 1 b = k ∧ k < 12) ∧
      tiltingCount s = records.countP (fun w => w.tilting == 1#8)

/-- Commission and ReturnToSetup: the mode alone changes, unless no formation exists or a car is RETURNING (R21, R22).
-/
def Obligations.CommissionAndReturnChangeTheMode : Prop :=
  ∀ (s : State) (tag : Byte), LinkFree s →
    (s.ctl.mode = .setup → s.cars ≠ [] →
      exec (.commission tag) s = .next (chooseIfIdle
          { s with ctl := { s.ctl with mode := .standby },
                   link := { s.link with reply := some (okFrame 0x03#8 tag [1, yesNo s.ctl.run, 0, 0]) } })) ∧
    (s.ctl.mode = .setup → s.cars = [] →
      exec (.commission tag) s =
        .next (chooseIfIdle (s.respond { kind := 0x83#8, tag := tag, body := [7, 1, 0, 0] }))) ∧
    (s.ctl.mode = .standby → s.ctl.run = false → (∀ c ∈ s.chans, c.state ≠ .returning) →
      exec (.returnToSetup tag) s = .next (chooseIfIdle
          { s with ctl := { s.ctl with mode := .setup },
                   link := { s.link with reply := some (okFrame 0x04#8 tag [0, 0, 0, 0]) } })) ∧
    (s.ctl.mode = .standby → s.ctl.run = false → (∃ c ∈ s.chans, c.state = .returning) →
      exec (.returnToSetup tag) s =
        .next (chooseIfIdle (s.respond { kind := 0x84#8, tag := tag, body := [7, 2, 0, 0] })))

/-- EnableTilt and ResumeTilt clear the latch and enter ACTIVE; EnableTilt is refused LINE before INHIBIT, and a
refused request changes neither mode nor latch. DisableTilt returns every FOLLOWING car with its angle and step kept,
and leaves the latch, the run and CENTRE_OK (R25, R26, R27, R126). -/
def Obligations.TiltIsEnabledAndWithdrawnByRequest : Prop :=
  ∀ (s : State) (tag : Byte), LinkFree s →
    (s.ctl.mode = .standby → s.ctl.run = true →
      (s.line.state ≠ .cycling →
        exec (.enableTilt tag) s =
          .next (chooseIfIdle (s.respond { kind := 0x87#8, tag := tag, body := [7, 3, 0, 0] }))) ∧
      (s.line.state = .cycling → s.ctl.inhibit = true →
        exec (.enableTilt tag) s =
          .next (chooseIfIdle (s.respond { kind := 0x87#8, tag := tag, body := [7, 4, 0, 0] }))) ∧
      (s.line.state = .cycling → s.ctl.inhibit = false →
        exec (.enableTilt tag) s = .next (chooseIfIdle
            { s with ctl := { s.ctl with mode := .active, latch := false },
                     link := { s.link with reply := some (okFrame 0x07#8 tag [2, 1, 0, 0]) } }))) ∧
    (s.ctl.mode = .inhibited →
      (s.ctl.inhibit = true →
        exec (.resumeTilt tag) s =
          .next (chooseIfIdle (s.respond { kind := 0x89#8, tag := tag, body := [7, 4, 0, 0] }))) ∧
      (s.ctl.inhibit = false →
        exec (.resumeTilt tag) s = .next (chooseIfIdle
            { s with ctl := { s.ctl with mode := .active, latch := false },
                     link := { s.link with reply := some (okFrame 0x09#8 tag [2, yesNo s.ctl.run, 0, 0]) } }))) ∧
    (CentreLaw s → s.ctl.mode = .active ∨ s.ctl.mode = .inhibited →
      exec (.disableTilt tag) s = .next (chooseIfIdle
          { s with
            ctl := { s.ctl with mode := .standby }
            chans := s.chans.map (fun c => if c.state = .following then { c with state := .returning } else c)
            link := { s.link with reply := some (okFrame 0x08#8 tag [1, yesNo s.ctl.run, 0, 0]) } }))

/-- StartRun and EndRun: the run flag and the state that lives in a run, block by block; an origin outside its range
is refused (R23, R24, R59, R60, R84, R85, R95, R96). -/
def Obligations.RunsStartAndEndInEveryBlock : Prop :=
  ∀ (s : State) (tag : Byte), LinkFree s → s.ctl.mode = .standby →
    (∀ origin : Word, s.ctl.run = false → (-2000000000 ≤ origin.toInt ∧ origin.toInt ≤ 2000000000) →
      exec (.startRun tag origin) s = .next (chooseIfIdle
          { s with
            ctl := { s.ctl with run := true }
            odo := { s.odo with
                     tachoA := { s.odo.tachoA with failed := false, silent := 0 }
                     tachoB := { s.odo.tachoB with failed := false, silent := 0 }
                     pos := origin.toInt, rho := 0, u := s.params.fixAccuracy * 10000, trust := true,
                     captures := [], nextNumber := some 1 }
            geo := { committed := [], batch := none, armed := true }
            ring := []
            link := { s.link with reply := some (okFrame 0x05#8 tag ([1, 1, 0, 0] ++ bytes4 origin)) } })) ∧
    (∀ origin : Word, s.ctl.run = false → ¬(-2000000000 ≤ origin.toInt ∧ origin.toInt ≤ 2000000000) →
      exec (.startRun tag origin) s =
        .next (chooseIfIdle (s.respond { kind := 0x85#8, tag := tag, body := [3, 0, 0, 0] }))) ∧
    (s.ctl.run = true →
      exec (.endRun tag) s = .next (chooseIfIdle
          { s with
            ctl := { s.ctl with run := false }
            odo := { s.odo with captures := [] }
            geo := { committed := [], batch := none, armed := false }
            ring := []
            link := { s.link with reply := some (okFrame 0x06#8 tag ([1, 0, 0, 0] ++ i32 s.odo.pos)) } }))

/-- ResolveCapture applies a fix: P and the later captures move by δ, with ρ kept unless P is held at an end of its
range, the resolved and the earlier captures go, the ring shifts, u becomes fixAccuracy, trust is restored and the
look-ahead is evaluated; the notices raised, pending and with their flags, are those of R48, R56 and R81; the blocks
that hold no position stay as they are. A number not in the list is STALE or NOT_FOUND (R48, R54, R55, R56, R81, R91,
R181, R191). -/
def Obligations.FixesCorrectThePosition : Prop :=
  ∀ (s : State) (tag : Byte) (n : Half) (x : Word), LinkFree s → s.ctl.run = true →
    (∀ c, ParamsLaw s → OdometerLaw s → n ≠ 0#16 → inRoute x.toInt = true →
      s.odo.captures.find? (fun e => e.number == n.toNat) = some c →
      ∃ t f, exec (.resolveCapture tag n 0#8 0#8 x) s = .next (chooseIfIdle t) ∧ t.link.reply = some f ∧
        t.odo.pos = saturatePos (s.odo.pos + (x.toInt - c.position)) ∧
        (saturatePos (s.odo.pos + (x.toInt - c.position)) = s.odo.pos + (x.toInt - c.position) →
          t.odo.rho = s.odo.rho) ∧
        (saturatePos (s.odo.pos + (x.toInt - c.position)) ≠ s.odo.pos + (x.toInt - c.position) → t.odo.rho = 0) ∧
        LookAheadEvaluated s t ∧
        t.odo.captures = (s.odo.captures.filter (fun e => decide (n.toNat < e.number))).map
          (fun e => { e with position := saturatePos (e.position + (x.toInt - c.position)) }) ∧
        t.odo.nextNumber = s.odo.nextNumber ∧ t.odo.window = s.odo.window ∧ t.odo.tachoA = s.odo.tachoA ∧
        t.odo.tachoB = s.odo.tachoB ∧ t.odo.marker = s.odo.marker ∧
        t.odo.u = s.params.fixAccuracy * 10000 ∧ t.odo.trust = true ∧
        t.ring = (s.ring.map (fun y => { y with position := y.position + (x.toInt - c.position) })).filter
          (fun y => decide (-2147483648 ≤ y.position ∧ y.position ≤ 2147483647)) ∧
        t.link = { s.link with
          reply := some f
          notices := { s.link.notices with
            position := t.link.notices.position, geometry := t.link.notices.geometry } } ∧
        (t.link.notices.position.pending = true ↔ s.link.notices.position.pending = true ∨
          s.odo.uCm + s.params.fixAccuracy < (x.toInt - c.position).natAbs ∨ s.odo.trust = false) ∧
        t.link.notices.position.flags =
          (s.link.notices.position.flags |||
            (if s.odo.uCm + s.params.fixAccuracy < (x.toInt - c.position).natAbs then 128#16 else 0#16)) |||
            (if s.odo.trust then 0#16 else 16#16) ∧
        t.geo.committed = s.geo.committed ∧ t.geo.batch = s.geo.batch ∧ t.ctl = s.ctl ∧ t.cars = s.cars ∧
        t.params = s.params ∧ t.plan = s.plan ∧ t.chans = s.chans ∧ t.line = s.line ∧
        f.kind = 0x98#8 ∧ f.tag = tag ∧ f.body.length = 20 ∧ f.body.take 4 = [0, 0, 0, 0] ∧
        intAt 4 4 f.body = saturatePos (x.toInt - c.position) ∧ intAt 4 8 f.body = t.odo.pos ∧
        natAt 4 12 f.body = s.params.fixAccuracy ∧ natAt 1 16 f.body = 1 ∧
        natAt 1 17 f.body = min 255 (s.odo.captures.countP (fun e => decide (e.number < n.toNat)))) ∧
    (n = 0#16 ∨ inRoute x.toInt = false →
      exec (.resolveCapture tag n 0#8 0#8 x) s =
        .next (chooseIfIdle (s.respond { kind := 0x98#8, tag := tag, body := [3, 0, 0, 0] }))) ∧
    (n ≠ 0#16 → inRoute x.toInt = true → (∀ e ∈ s.odo.captures, e.number ≠ n.toNat) →
      (s.odo.nextNumber = none ∨ (∃ m, s.odo.nextNumber = some m ∧ n.toNat < m) →
        exec (.resolveCapture tag n 0#8 0#8 x) s =
          .next (chooseIfIdle (s.respond { kind := 0x98#8, tag := tag, body := [9, 0, 0, 0] }))) ∧
      (∀ m, s.odo.nextNumber = some m → m ≤ n.toNat →
        exec (.resolveCapture tag n 0#8 0#8 x) s =
          .next (chooseIfIdle (s.respond { kind := 0x98#8, tag := tag, body := [8, 0, 0, 0] }))))

/-- OpenBatch opens a batch and discards what was staged; AddSegments stages its records whole or not at all, and a
record passes exactly when its seven fields lie within their ranges; otherwise the record reported is the first with a
field out of range, and the field the first of that record (R62, R67, R68, R69, R189). -/
def Obligations.BatchesAreOpenedAndStaged : Prop :=
  (∀ (records : List SegmentWire) (i f : Nat) (w : SegmentWire), records[i]? = some w → 1 ≤ f → f ≤ 7 →
    (∀ (j n : Nat) (x : SegmentWire), j < i → records[j]? = some x → passesField x n) →
    (∀ n, n < f → passesField w n) → ¬passesField w f → segmentsFault 0 records = some (i, f)) ∧
  (∀ (records : List SegmentWire), segmentsFault 0 records = none ↔
    ∀ w ∈ records, -2000000000 ≤ w.start.toInt ∧ w.start.toInt ≤ 2000000000 ∧
      100 ≤ w.length.toNat ∧ w.length.toNat ≤ 500000 ∧ w.curveStart.toInt.natAbs ≤ 20000 ∧
      w.curveStop.toInt.natAbs ≤ 20000 ∧ w.cantStart.toInt.natAbs ≤ 200 ∧ w.cantStop.toInt.natAbs ≤ 200 ∧
      (w.cap = 0xFFFF#16 ∨ w.cap.toNat ≤ 10000)) ∧
  ∀ (s : State) (tag : Byte), LinkFree s → s.ctl.run = true →
    (∀ x : Word, inRoute x.toInt = true →
      exec (.openBatch tag x) s = .next (chooseIfIdle
          { s with geo := { s.geo with batch := some { declared := x.toInt, staged := [] } },
                   link := { s.link with
                             reply := some (okFrame 0x20#8 tag
                               [yesNo s.geo.batch.isSome, u8 s.geo.stagedCount, 0, 0]) } })) ∧
    (∀ x : Word, inRoute x.toInt = false →
      exec (.openBatch tag x) s =
        .next (chooseIfIdle (s.respond { kind := 0xA0#8, tag := tag, body := [3, 0, 0, 0] }))) ∧
    (∀ (count : Byte) (records : List SegmentWire), records.length = count.toNat →
      reservedFault (.addSegments count 0#8 0#8 0#8 records) = none →
      (s.geo.batch = none →
        exec (.addSegments tag count 0#8 0#8 0#8 records) s =
          .next (chooseIfIdle (s.respond { kind := 0xA1#8, tag := tag, body := [7, 5, 0, 0] }))) ∧
      (∀ b, s.geo.batch = some b →
        (records.length = 0 ∨ 8 < records.length →
          exec (.addSegments tag count 0#8 0#8 0#8 records) s =
            .next (chooseIfIdle (s.respond { kind := 0xA1#8, tag := tag, body := [3, 0, 0, 0] }))) ∧
        (1 ≤ records.length ∧ records.length ≤ 8 →
          (∀ i f, segmentsFault 0 records = some (i, f) →
            exec (.addSegments tag count 0#8 0#8 0#8 records) s =
              .next (chooseIfIdle (s.respond { kind := 0xA1#8, tag := tag, body := [3, 22] ++ u16 (i + 256 * f) }))) ∧
          (segmentsFault 0 records = none → 32 < b.staged.length + records.length →
            exec (.addSegments tag count 0#8 0#8 0#8 records) s =
              .next (chooseIfIdle (s.respond { kind := 0xA1#8, tag := tag, body := [6, 0, 0, 0] }))) ∧
          (segmentsFault 0 records = none → b.staged.length + records.length ≤ 32 →
            exec (.addSegments tag count 0#8 0#8 0#8 records) s = .next (chooseIfIdle
                { s with geo := { s.geo with
                                  batch := some { b with staged := b.staged ++ records.map segmentOfWire } },
                         link := { s.link with
                                   reply := some (okFrame 0x21#8 tag
                                     [u8 (b.staged.length + records.length), 0, 0, 0]) } })))))

/-- CloseBatch commits the staged records whole where its five checks pass, and otherwise discards them, naming the
first check of R70 that fails; the look-ahead is then evaluated: it warns once when armed and short, and is armed
again by a long one (R70, R71, R72, R80, R81). -/
def Obligations.BatchesCommitWholeOrNotAtAll : Prop :=
  (∀ (s : State),
    lookAhead s = ((s.geo.committed.getLast?.map (fun g => g.start + g.length - s.odo.pos)).getD 0) ∧
    (s.geo.armed = true → lookAhead s < s.params.lookLow →
      evaluateLookAhead s = ({ s with geo := { s.geo with armed := false } }).raise .geometry 1#16) ∧
    (s.geo.armed = true → (s.params.lookLow : Int) ≤ lookAhead s → evaluateLookAhead s = s) ∧
    (s.geo.armed = false → (s.params.lookHigh : Int) < lookAhead s →
      evaluateLookAhead s = { s with geo := { s.geo with armed := true } }) ∧
    (s.geo.armed = false → lookAhead s ≤ s.params.lookHigh → evaluateLookAhead s = s)) ∧
  ∀ (s : State) (tag count : Byte), LinkFree s → s.ctl.run = true →
    (s.geo.batch = none →
      exec (.closeBatch tag count) s =
        .next (chooseIfIdle (s.respond { kind := 0xA2#8, tag := tag, body := [7, 5, 0, 0] }))) ∧
    (∀ b, s.geo.batch = some b →
      (batchFault count.toNat b s.geo = none ↔
        count.toNat = b.staged.length ∧ (∃ g, b.staged.head? = some g ∧ g.start = b.declared) ∧
        (∀ g, s.geo.committed.getLast? = some g → g.stop = b.declared) ∧ joined b.staged = true ∧
        s.geo.committed.length + b.staged.length ≤ 256) ∧
      (∀ (n : Nat) (d : Detail), [Detail.count, .start, .gap, .order, .capacity][n]? = some d →
        (∀ (m : Nat) (e : Detail), m < n → [Detail.count, .start, .gap, .order, .capacity][m]? = some e →
          passesClose count.toNat b s.geo.committed e) →
        ¬passesClose count.toNat b s.geo.committed d → batchFault count.toNat b s.geo = some d) ∧
      (∀ d, batchFault count.toNat b s.geo = some d →
        exec (.closeBatch tag count) s = .next (chooseIfIdle
            { s with geo := { s.geo with batch := none },
                     link := { s.link with
                               reply := some { kind := 0xA2#8, tag := tag,
                                               body := [7, detailByte d, 0, 0, u8 b.staged.length, 0, 0, 0] } } })) ∧
      (batchFault count.toNat b s.geo = none →
        exec (.closeBatch tag count) s = .next (chooseIfIdle
            ((evaluateLookAhead
                { s with geo := { s.geo with committed := s.geo.committed ++ b.staged, batch := none } }).respond
              (okFrame 0x22#8 tag
                ([u8 b.staged.length, 0] ++ u16 (256 - (s.geo.committed.length + b.staged.length)) ++
                  i32 ((b.staged.getLast?.map Segment.stop).getD 0)))))))

/-- TruncateGeometry is refused while a batch is open or inside the protected zone; an accepted one cuts the route at
X: what lies before X is covered as before by records of the same start, and nothing beyond X is (R76, R77, R78). -/
def Obligations.TruncationCutsTheRouteAtX : Prop :=
  ∀ (s : State) (tag : Byte) (x : Word), LinkFree s → s.ctl.run = true →
    (inRoute x.toInt = false →
      exec (.truncateGeometry tag x) s =
        .next (chooseIfIdle (s.respond { kind := 0xA3#8, tag := tag, body := [3, 0, 0, 0] }))) ∧
    (inRoute x.toInt = true → s.geo.batch ≠ none →
      exec (.truncateGeometry tag x) s =
        .next (chooseIfIdle (s.respond { kind := 0xA3#8, tag := tag, body := [5, 0, 0, 0] }))) ∧
    (inRoute x.toInt = true → s.geo.batch = none →
      x.toInt < s.odo.pos + ((s.odo.v * largestLead s / 1000 : Nat) : Int) + s.params.truncateGuard →
      exec (.truncateGeometry tag x) s =
        .next (chooseIfIdle
          (s.respond { kind := 0xA3#8, tag := tag,
                       body := [7, 11, 0, 0] ++
                         i32 (s.odo.pos + ((s.odo.v * largestLead s / 1000 : Nat) : Int) +
                           s.params.truncateGuard) }))) ∧
    (inRoute x.toInt = true → s.geo.batch = none → GeometryLaw s →
      s.odo.pos + ((s.odo.v * largestLead s / 1000 : Nat) : Int) + s.params.truncateGuard ≤ x.toInt →
      ∃ (l : List Segment) (t : State) (f : Frame), exec (.truncateGeometry tag x) s = .next (chooseIfIdle t) ∧
        t = (evaluateLookAhead { s with geo := { s.geo with committed := l } }).respond f ∧
        l.length = s.geo.committed.countP (fun g => decide (g.start < x.toInt)) ∧
        (∀ (i : Nat) (g h : Segment), s.geo.committed[i]? = some g → l[i]? = some h →
          h.start = g.start ∧ h.curveStart = g.curveStart ∧ h.cantStart = g.cantStart ∧ h.cap = g.cap ∧
          (g.stop ≤ x.toInt → h = g) ∧
          (x.toInt < g.stop → h.stop = x.toInt ∧ h.curveStop = g.curve x.toInt ∧ h.cantStop = g.cant x.toInt)) ∧
        (∀ p, ({ s.geo with committed := l } : GeoStore).at p = none ↔ s.geo.at p = none ∨ x.toInt ≤ p) ∧
        f.kind = 0xA3#8 ∧ f.tag = tag ∧ f.body.length = 16 ∧ f.body.take 4 = [0, 0, 0, 0] ∧
        natAt 2 4 f.body = s.geo.committed.countP (fun g => decide (x.toInt ≤ g.start)) ∧
        (natAt 1 6 f.body = 1 ↔ ∃ g ∈ s.geo.committed, g.start < x.toInt ∧ x.toInt < g.stop) ∧
        (natAt 1 7 f.body = 1 ↔ l ≠ []) ∧
        intAt 4 8 f.body = saturatePos ((l.getLast?.map Segment.stop).getD 0) ∧
        natAt 2 12 f.body = 256 - l.length)

/-- QueryCar answers a car's records and empties its node flags; ClearCarFault makes a FAILED car with a bound,
reporting and healthy node CENTRED, and is refused in the order of R137 otherwise (R133, R137, R138, R191). -/
def Obligations.CarsAreQueriedAndCleared : Prop :=
  ∀ (s : State) (tag car : Byte), LinkFree s →
    (s.cars.length ≤ car.toNat →
      exec (.queryCar tag car) s =
        .next (chooseIfIdle (s.respond { kind := 0xA8#8, tag := tag, body := [3, 0, 0, 0] })) ∧
      exec (.clearCarFault tag car) s =
        .next (chooseIfIdle (s.respond { kind := 0xA9#8, tag := tag, body := [3, 0, 0, 0] }))) ∧
    (∀ c r, car.toNat < s.cars.length → s.chans[car.toNat]? = some c → s.plan.records[car.toNat]? = some r →
      ∃ f, exec (.queryCar tag car) s = .next (chooseIfIdle
            { s with chans := s.chans.set car.toNat { c with flags := noNodeFlags },
                     link := { s.link with reply := some f } }) ∧
        f.kind = 0xA8#8 ∧ f.tag = tag ∧ f.body.length = 42 ∧ f.body.take 4 = [0, 0, 0, 0] ∧
        natAt 1 4 f.body = (chanStateCode c.state).toNat ∧ (natAt 1 5 f.body = 1 ↔ isBound s car.toNat = true) ∧
        natAt 1 6 f.body = (condCode c.cond).toNat ∧ natAt 1 7 f.body = (nodeFlagsByte c.flags).toNat ∧
        natAt 1 8 f.body = min c.trackCount 255 ∧ natAt 1 9 f.body = (faultSetByte c.faults).toNat ∧
        natAt 1 10 f.body = (faultCode c.firstFault).toNat ∧ (natAt 1 11 f.body = 1 ↔ c.unreported = true) ∧
        intAt 2 12 f.body = clamp c.theta (-32768) 32767 ∧ intAt 2 14 f.body = clamp c.step (-32768) 32767 ∧
        intAt 2 16 f.body = clamp c.sent (-32768) 32767 ∧
        intAt 2 18 f.body = clamp (c.angle.getD 0) (-32768) 32767 ∧
        (natAt 1 20 f.body = 1 ↔ c.angle ≠ none) ∧
        natAt 4 22 f.body = ((ownSerial s car.toNat).getD 0#32).toNat ∧
        intAt 2 26 f.body = clamp r.target (-32768) 32767 ∧ natAt 1 28 f.body = (sourceCode r.source).toNat ∧
        (natAt 1 29 f.body = 1 ↔ r.fallback = true) ∧ (natAt 1 30 f.body = 1 ↔ r.front ≠ none) ∧
        (natAt 1 31 f.body = 1 ↔ r.rear ≠ none) ∧ intAt 4 34 f.body = saturatePos (r.front.getD 0) ∧
        intAt 4 38 f.body = saturatePos (r.rear.getD 0)) ∧
    (∀ c, car.toNat < s.cars.length → s.chans[car.toNat]? = some c →
      (c.state ≠ .failed →
        exec (.clearCarFault tag car) s =
          .next (chooseIfIdle (s.respond { kind := 0xA9#8, tag := tag, body := [7, 12, 0, 0] }))) ∧
      (c.state = .failed → s.line.state ≠ .cycling →
        exec (.clearCarFault tag car) s =
          .next (chooseIfIdle (s.respond { kind := 0xA9#8, tag := tag, body := [7, 3, 0, 0] }))) ∧
      (c.state = .failed → s.line.state = .cycling →
        (isBound s car.toNat = false →
          exec (.clearCarFault tag car) s =
            .next (chooseIfIdle (s.respond { kind := 0xA9#8, tag := tag, body := [7, 13, 0, 0] }))) ∧
        (isBound s car.toNat = true → c.cond = none →
          exec (.clearCarFault tag car) s =
            .next (chooseIfIdle (s.respond { kind := 0xA9#8, tag := tag, body := [7, 14, 0, 0] }))) ∧
        (isBound s car.toNat = true → c.cond = some .fault →
          exec (.clearCarFault tag car) s =
            .next (chooseIfIdle (s.respond { kind := 0xA9#8, tag := tag, body := [7, 15, 0, 0] }))) ∧
        (isBound s car.toNat = true → c.cond = some .ready ∨ c.cond = some .notReady →
          exec (.clearCarFault tag car) s = .next (chooseIfIdle
              ((({ s with
                   chans := s.chans.set car.toNat
                     { c with state := .centred, theta := 0, step := 0, trackCount := 0, faults := .empty,
                              firstFault := none, unreported := false } }).reevaluate).respond
                (okFrame 0x29#8 tag [faultSetByte c.faults, faultCode c.firstFault, 0, 0]))))))

/-- RollCall starts a muster: the line is MUSTERING, the maintenance queue is flushed, every binding ends without a
fault and every fault set is emptied: each tilting car is ABSENT at 0 with its reported angle and condition kept; the
foreign-node table and the parked list are emptied, MUSTER is sent and no reply is placed; its three refusals stand
before it in order (R124, R148; the frame being sent: log entry 8). -/
def Obligations.RollCallStartsAMuster : Prop :=
  ∀ (s : State) (tag : Byte), LinkFree s → s.ctl.mode = .setup ∨ s.ctl.mode = .standby →
    (s.cars = [] →
      exec (.rollCall tag) s = .next (chooseIfIdle (s.respond { kind := 0xB0#8, tag := tag, body := [7, 1, 0, 0] }))) ∧
    (s.cars ≠ [] → s.line.state = .mustering ∨ (∃ f ∈ s.link.completions, f.kind = 0xB0#8) →
      exec (.rollCall tag) s = .next (chooseIfIdle (s.respond { kind := 0xB0#8, tag := tag, body := [5, 0, 0, 0] }))) ∧
    (s.cars ≠ [] → s.line.state ≠ .mustering → (∀ f ∈ s.link.completions, f.kind ≠ 0xB0#8) →
      ((∃ c ∈ s.chans, c.state = .returning) →
        exec (.rollCall tag) s =
          .next (chooseIfIdle (s.respond { kind := 0xB0#8, tag := tag, body := [7, 2, 0, 0] }))) ∧
      ((∀ c ∈ s.chans, c.state ≠ .returning) →
        exec (.rollCall tag) s = .next (chooseIfIdle
            { s with
              ctl := { s.ctl with centreOk := false }
              chans := s.chans.map (fun c =>
                if c.state = .notFitted then { c with faults := .empty, firstFault := none, unreported := false }
                else { c with state := .absent, theta := 0, step := 0, trackCount := 0, faults := .empty,
                              firstFault := none, unreported := false })
              line := { s.line with
                        state := .mustering, echoCount := 0, maint := [], parked := [], foreign := .empty,
                        nodes := s.cars.map (fun _ => { serial := none, miss := 0 }),
                        muster := some { tag := tag, round := 0 },
                        exch := if s.line.exch.cutOff = .cut then .cut else .echo .muster }
              link := { s.link with
                        completions :=
                          s.link.completions ++ s.line.maint.map (fun e => transferFrame e .lineStopped 0#16) } })))

/-- NodeTransfer queues its entry and places no reply, after its four checks in order; ReadAlerts answers and removes
every alert record; SetReporting sets the period, at most 250, and the countdown; each countdown report counts down
and raises TELEMETRY at 0, and without a formation or a period it does nothing (R116, R164, R165, R166, R183, R184).
That a completion being sent is outstanding no longer is the model's reading of R166 (log entry 16), and that the
report is a command of its own is its choice (log entry 4). -/
def Obligations.TransfersAlertsAndReporting : Prop :=
  ∀ (s : State) (tag : Byte), LinkFree s →
    (∀ (car dir item : Byte) (value : Half),
      (s.cars.length ≤ car.toNat ∨ 1 < dir.toNat ∨ (dir = 0#8 ∧ value ≠ 0#16) →
        exec (.nodeTransfer tag car dir item 0#8 value) s =
          .next (chooseIfIdle (s.respond { kind := 0xB1#8, tag := tag, body := [3, 0, 0, 0] }))) ∧
      (car.toNat < s.cars.length → (dir = 0#8 ∧ value = 0#16) ∨ dir = 1#8 →
        (s.line.state ≠ .cycling →
          exec (.nodeTransfer tag car dir item 0#8 value) s =
            .next (chooseIfIdle (s.respond { kind := 0xB1#8, tag := tag, body := [7, 3, 0, 0] }))) ∧
        (s.line.state = .cycling → isBound s car.toNat = false →
          exec (.nodeTransfer tag car dir item 0#8 value) s =
            .next (chooseIfIdle (s.respond { kind := 0xB1#8, tag := tag, body := [7, 13, 0, 0] }))) ∧
        (s.line.state = .cycling → isBound s car.toNat = true →
          4 ≤ s.line.maint.length + s.link.completions.countP (fun f => f.kind == 0xB1#8) →
          exec (.nodeTransfer tag car dir item 0#8 value) s =
            .next (chooseIfIdle (s.respond { kind := 0xB1#8, tag := tag, body := [6, 0, 0, 0] }))) ∧
        (s.line.state = .cycling → isBound s car.toNat = true →
          s.line.maint.length + s.link.completions.countP (fun f => f.kind == 0xB1#8) < 4 →
          exec (.nodeTransfer tag car dir item 0#8 value) s = .next
            { s with line := { s.line with
                maint := s.line.maint ++
                  [{ car := car.toNat, write := dir == 1#8, item := item, value := value, tag := tag }] } }))) ∧
    (∃ b, exec (.readAlerts tag) s = .next (chooseIfIdle
          { s with line := { s.line with alerts := [] },
                   link := { s.link with reply := some (okFrame 0x32#8 tag b) } }) ∧
      b.length = 4 + 8 * s.line.alerts.length ∧
      (s.line.alerts.length ≤ 255 → natAt 1 0 b = s.line.alerts.length) ∧
      (∀ i a, s.line.alerts[i]? = some a →
        natAt 1 (4 + 8 * i) b = min a.car 255 ∧ natAt 1 (5 + 8 * i) b = (alertCode a.kind).toNat ∧
        natAt 2 (6 + 8 * i) b = a.detail.toNat ∧ intAt 4 (8 + 8 * i) b = saturatePos a.position)) ∧
    (∀ p : Half, exec (.setReporting tag p) s = .next (chooseIfIdle
        { s with link := { s.link with
                           period := min p.toNat 250, countdown := min p.toNat 250,
                           reply := some (okFrame 0x38#8 tag [BitVec.ofNat 8 (min p.toNat 250), 0, 0, 0]) } })) ∧
    (s.cars = [] ∨ s.link.period = 0 → exec .telemetryCountdown s = .next s) ∧
    (s.cars ≠ [] → s.link.period ≠ 0 → 2 ≤ s.link.countdown → exec .telemetryCountdown s = .next
      { s with link := { s.link with countdown := s.link.countdown - 1 } }) ∧
    (s.cars ≠ [] → s.link.period ≠ 0 → s.link.countdown = 1 → exec .telemetryCountdown s = .next (chooseIfIdle
        { s with link := { s.link with
                           countdown := s.link.period,
                           notices := { s.link.notices with
                             telemetry := { pending := true, flags := s.link.notices.telemetry.flags } } } }))

/-! ## Pins and the odometer -/

/-- RESET_N released puts every block at the values the manual gives, the straps sampled and the pairs at the phase
they are found at; RESET_N asserted holds the part there with nothing pending to be sent (R16, R34, R35, R37, R61,
R86, R97, R142, R143, R185; log entry 6 for the pin held low). -/
def Obligations.PinResetGivesEveryBlockItsResetValues : Prop :=
  ∀ (s : State) (pins : Pins), ∃ t, exec (.resetN pins) s = .next t ∧
    t.pending = s.pending ∧ t.inReset = false ∧ t.cars = [] ∧ t.chans = [] ∧ t.ring = [] ∧
    t.ctl = { mode := .setup, run := false, inhibit := true, inhibitCount := 0, latch := true, centreOk := false,
              cause := .none,
              rateCode := (if pins.straps.rate1 then 2 else 0) + (if pins.straps.rate0 then 1 else 0) } ∧
    paramList t.params =
      [1500, 650, 500, 8000, 5000, 10000, 3000, 1100, 1500, 1000, 50, 4, 30, 2800, 2800, 140, 140, 500, 1, 5000,
       300000, 800000, 20000, 200000, 2500, 25, 300, 0] ∧
    t.params.sMax = 100 ∧ t.params.dStep = 4 ∧ t.params.pulseDistance .a = 20000 ∧
    t.params.pulseDistance .b = 20000 ∧
    t.odo.pos = 0 ∧ t.odo.rho = 0 ∧ t.odo.uCm = 100000 ∧ t.odo.trust = false ∧ t.odo.v = 0 ∧
    t.odo.window = List.replicate 10 0 ∧ t.odo.marker = false ∧ t.odo.markerCount = 0 ∧ t.odo.captures = [] ∧
    t.odo.nextNumber = some 1 ∧
    t.odo.tachoA = { phase := pins.tachA, quarters := 0, failed := false, increment := 0, silent := 0,
                     window := List.replicate 10 0 } ∧
    t.odo.tachoB = { phase := pins.tachB, quarters := 0, failed := false, increment := 0, silent := 0,
                     window := List.replicate 10 0 } ∧
    t.geo = { committed := [], batch := none, armed := false } ∧
    t.plan = { records := [], exhausted := false, delivered := none } ∧
    t.line = { state := .off, nodes := [], foreign := .empty, parked := [], echoCount := 0, echoTotal := 0,
               maint := [], alerts := [], muster := none, exch := .quiet } ∧
    t.link = { waitIdle := true, gapRunning := false, fifo := [], overrun := false, asm := .hunt, slot := none,
               reply := none, completions := [], resetWaiting := false,
               notices := { mode := { pending := true, flags := 1#16 }, cars := .clear, line := .clear,
                            position := .clear, geometry := .clear, alerts := .clear, telemetry := .clear },
               period := 0, countdown := 0, bad := 0, broken := 0, refused := 0, sending := none } ∧
    exec .resetNAsserted s = .next
      { t with inReset := true, ctl := { t.ctl with rateCode := s.ctl.rateCode },
               odo := { t.odo with tachoA := { t.odo.tachoA with phase := s.odo.tachoA.phase },
                                   tachoB := { t.odo.tachoB with phase := s.odo.tachoB.phase } },
               link := { t.link with notices := .clear } }

/-- The inhibit filter: an equal sample clears the count, the third opposing one is accepted. An accepted assertion
sets the latch and, in ACTIVE, makes the part INHIBITED, returns the cars and raises MODE; an accepted release changes
the level alone (R28, R29, R30; the two acceptances as commands: log entry 4). -/
def Obligations.InhibitIsFilteredLatchedAndWithdrawsTilt : Prop :=
  ∀ (s : State), Running s →
    (exec (.inhibitSample s.ctl.inhibit) s = .next { s with ctl := { s.ctl with inhibitCount := 0 } }) ∧
    (s.ctl.inhibitCount < 2 →
      exec (.inhibitSample (!s.ctl.inhibit)) s =
        .next { s with ctl := { s.ctl with inhibitCount := s.ctl.inhibitCount + 1 } }) ∧
    (s.ctl.inhibit = true → ∀ c, c = .inhibitReleased ∨ (c = .inhibitSample false ∧ s.ctl.inhibitCount = 2) →
      exec c s = .next { s with ctl := { s.ctl with inhibit := false, inhibitCount := 0 } }) ∧
    (s.ctl.inhibit = false → ∀ c, c = .inhibitAsserted ∨ (c = .inhibitSample true ∧ s.ctl.inhibitCount = 2) →
      (s.ctl.mode ≠ .active →
        exec c s = .next { s with ctl := { s.ctl with inhibit := true, inhibitCount := 0, latch := true } }) ∧
      (s.ctl.mode = .active → CentreLaw s →
        exec c s = .next (chooseIfIdle
            { s with
              ctl := { s.ctl with mode := .inhibited, inhibit := true, inhibitCount := 0, latch := true,
                                  cause := .inhibit }
              chans := s.chans.map (fun c => if c.state = .following then { c with state := .returning } else c)
              link := { s.link with notices := { s.link.notices with
                        mode := { pending := true, flags := s.link.notices.mode.flags } } } })))

/-- The marker filter and the captures: the third opposing sample is accepted; an accepted rising edge in a run
captures P and v under the next number, into a list of eight at most, or is refused once the numbers are exhausted;
without a run it changes the level alone (R49, R50, R51, R52; the accepted edge as a command: log entry 4). -/
def Obligations.MarkerEdgesMakeCaptures : Prop :=
  ∀ (s : State), Running s →
    (exec (.markerSample s.odo.marker) s = .next { s with odo := { s.odo with markerCount := 0 } }) ∧
    (s.odo.markerCount < 2 →
      exec (.markerSample (!s.odo.marker)) s =
        .next { s with odo := { s.odo with markerCount := s.odo.markerCount + 1 } }) ∧
    (s.odo.marker = true → s.odo.markerCount = 2 →
      exec (.markerSample false) s = .next { s with odo := { s.odo with marker := false, markerCount := 0 } }) ∧
    (s.odo.marker = false → ∀ c, c = .markerRisingEdge ∨ (c = .markerSample true ∧ s.odo.markerCount = 2) →
      (s.ctl.run = false →
        exec c s = .next { s with odo := { s.odo with marker := true, markerCount := 0 } }) ∧
      (s.ctl.run = true → s.odo.nextNumber = none →
        exec c s = .next
          (chooseIfIdle (({ s with odo := { s.odo with marker := true, markerCount := 0 } }).raise .position 4#16))) ∧
      (∀ n, s.ctl.run = true → s.odo.nextNumber = some n → s.odo.captures.length < 8 →
        exec c s = .next (chooseIfIdle
            (({ s with odo := { s.odo with
                marker := true, markerCount := 0,
                captures := s.odo.captures ++ [Capture.mk n s.odo.pos s.odo.v],
                nextNumber := if n < 65535 then some (n + 1) else none } }).raise .position 1#16))) ∧
      (∀ n e rest, s.ctl.run = true → s.odo.nextNumber = some n → s.odo.captures = e :: rest → rest.length = 7 →
        exec c s = .next (chooseIfIdle
            (({ s with odo := { s.odo with
                marker := true, markerCount := 0,
                captures := rest ++ [Capture.mk n s.odo.pos s.odo.v],
                nextNumber := if n < 65535 then some (n + 1) else none } }).raise .position 3#16))))

/-- Pulses and the measurement of a slot: a change of one line moves the decoder a quarter of a cycle forward or back,
the fourth in one sense counts a cycle, a cycle taken back before it completes counts nothing, and a change of both
lines at once counts nothing; a slot turns each increment into a raw distance, a window entry, a silent count and the
failure test, and enters the chosen distance into the speed window; without a run P, ρ, u, trust, the captures, the
route and the ring stay as they are, a channel newly FAILED raises POSITION, and a slide raises nothing. TACHO_FAILED
makes the failure test of one channel on the recorded figures (R37, R38, R39, R40, R41, R42, R45). That a cycle is
counted at its fourth quarter is the model's reading (log entry 5); that a change of both lines moves the phase and
keeps the quarters before it is its choice (log entry 5), since R37 says only that such a change is not counted; the
failure test as a command is its choice too (log entry 4). -/
def Obligations.SlotsMeasureBothChannels : Prop :=
  ∀ (s : State), Running s →
    (∀ (n : TachoName) (l1 l2 : Bool) (c d : Tacho), c = s.odo.tacho n → c.quarters.natAbs ≤ 3 →
      -- line 1 leads: it changes away from line 2's level, or line 2 follows it
      (c.phase.line1 = c.phase.line2 → (l1 = !c.phase.line1 ∧ l2 = c.phase.line2) →
        d = if c.quarters = 3 then { c with phase := ⟨l1, l2⟩, quarters := 0, increment := c.increment + 1 }
          else { c with phase := ⟨l1, l2⟩, quarters := c.quarters + 1 }) →
      (c.phase.line1 ≠ c.phase.line2 → (l1 = c.phase.line1 ∧ l2 = !c.phase.line2) →
        d = if c.quarters = 3 then { c with phase := ⟨l1, l2⟩, quarters := 0, increment := c.increment + 1 }
          else { c with phase := ⟨l1, l2⟩, quarters := c.quarters + 1 }) →
      -- line 1 lags
      (c.phase.line1 = c.phase.line2 → (l1 = c.phase.line1 ∧ l2 = !c.phase.line2) →
        d = if c.quarters = -3 then { c with phase := ⟨l1, l2⟩, quarters := 0, increment := c.increment - 1 }
          else { c with phase := ⟨l1, l2⟩, quarters := c.quarters - 1 }) →
      (c.phase.line1 ≠ c.phase.line2 → (l1 = !c.phase.line1 ∧ l2 = c.phase.line2) →
        d = if c.quarters = -3 then { c with phase := ⟨l1, l2⟩, quarters := 0, increment := c.increment - 1 }
          else { c with phase := ⟨l1, l2⟩, quarters := c.quarters - 1 }) →
      -- both lines at once, or no change
      ((l1 = !c.phase.line1 ∧ l2 = !c.phase.line2) ∨ (l1 = c.phase.line1 ∧ l2 = c.phase.line2) →
        d = { c with phase := ⟨l1, l2⟩ }) →
      exec (.pulseDecode n ⟨l1, l2⟩) s = .next
        { s with odo := match n with
            | .a => { s.odo with tachoA := d }
            | .b => { s.odo with tachoB := d } }) ∧
    (∀ c : Tacho, c.phase = ⟨false, false⟩ → c.quarters = 0 →
      [⟨true, false⟩, ⟨true, true⟩, ⟨false, true⟩, ⟨false, false⟩].foldl (fun d l => Tacho.decode l d) c =
        { c with increment := c.increment + 1 } ∧
      [⟨false, true⟩, ⟨true, true⟩, ⟨true, false⟩, ⟨false, false⟩].foldl (fun d l => Tacho.decode l d) c =
        { c with increment := c.increment - 1 } ∧
      [⟨true, false⟩, ⟨true, true⟩, ⟨false, true⟩, ⟨true, true⟩, ⟨true, false⟩, ⟨false, false⟩].foldl
        (fun d l => Tacho.decode l d) c = c ∧
      [⟨true, true⟩, ⟨false, false⟩].foldl (fun d l => Tacho.decode l d) c = c) ∧
    (∃ t, exec .odometrySlot s = .next (chooseIfIdle t) ∧
      (∀ n, t.odo.tacho n =
        { s.odo.tacho n with
          failed := failedAfter s n, increment := 0, silent := silentAfter s n,
          window := (s.odo.tacho n).window.drop 1 ++ [rawDistance s n] }) ∧
      t.odo.window = (if failedAfter s .a && failedAfter s .b then List.replicate 10 0
        else s.odo.window.drop 1 ++ [slotDistance s]) ∧
      t.ctl = s.ctl ∧ t.cars = s.cars ∧ t.params = s.params ∧ t.plan = s.plan ∧ t.chans = s.chans ∧
      t.line = s.line ∧
      (s.ctl.run = false →
        t.odo.pos = s.odo.pos ∧ t.odo.rho = s.odo.rho ∧ t.odo.u = s.odo.u ∧ t.odo.trust = s.odo.trust ∧
        t.odo.captures = s.odo.captures ∧ t.odo.nextNumber = s.odo.nextNumber ∧ t.odo.marker = s.odo.marker ∧
        t.odo.markerCount = s.odo.markerCount ∧ t.geo = s.geo ∧ t.ring = s.ring ∧
        t.link = { s.link with notices := { s.link.notices with position :=
          if (s.odo.tachoA.failed = false ∧ failedAfter s .a = true) ∨
              (s.odo.tachoB.failed = false ∧ failedAfter s .b = true) then
            { pending := true, flags := s.link.notices.position.flags ||| 64#16 }
          else s.link.notices.position } })) ∧
    (∀ n, (s.odo.tacho n).failed = false → (s.odo.tacho n).silent = 100 →
      500 ≤ (s.odo.tacho (otherTacho n)).speed →
      ∃ t, exec (.tachoFailed n) s = .next (chooseIfIdle t) ∧
        t.odo.tacho n = { s.odo.tacho n with failed := true } ∧
        t.odo.tacho (otherTacho n) = s.odo.tacho (otherTacho n) ∧
        t = ({ s with odo := t.odo }).raise .position 64#16 ∧ t.odo.pos = s.odo.pos ∧ t.odo.u = s.odo.u) ∧
    (∀ n, (s.odo.tacho n).failed = true ∨ (s.odo.tacho n).silent ≠ 100 ∨
        (s.odo.tacho (otherTacho n)).speed < 500 →
      exec (.tachoFailed n) s = .next s)

/-- The position arithmetic of a slot: exact to the micrometre, held at the ends of the range with ρ = 0, and still
without a run (R43). -/
def Obligations.SlotDistancesAddToThePositionExactly : Prop :=
  ∀ (s : State), Running s → 0 ≤ s.odo.rho → s.odo.rho < 10000 →
    ∃ t, exec .odometrySlot s = .next (chooseIfIdle t) ∧
      (s.ctl.run = false → t.odo.pos = s.odo.pos ∧ t.odo.rho = s.odo.rho) ∧
      (s.ctl.run = true → 0 ≤ t.odo.rho ∧ t.odo.rho < 10000 ∧
        (-21474836480000 ≤ s.odo.pos * 10000 + s.odo.rho + slotDistance s →
          s.odo.pos * 10000 + s.odo.rho + slotDistance s < 21474836480000 →
          t.odo.pos * 10000 + t.odo.rho = s.odo.pos * 10000 + s.odo.rho + slotDistance s) ∧
        (21474836480000 ≤ s.odo.pos * 10000 + s.odo.rho + slotDistance s →
          t.odo.pos = 2147483647 ∧ t.odo.rho = 0) ∧
        (s.odo.pos * 10000 + s.odo.rho + slotDistance s < -21474836480000 →
          t.odo.pos = -2147483648 ∧ t.odo.rho = 0))

/-- What else a slot of a run does: u grows by its case up to its ceiling, trust follows uMax and uResume, old
captures expire, passed records and samples go, and the look-ahead is evaluated, each with its notice, pending and
with its flag (R40, R42, R44, R46, R48, R53, R74, R81, R90, R181). -/
def Obligations.SlotsOfARunUpdateUncertaintyAndRelease : Prop :=
  ∀ (s : State), Running s → s.ctl.run = true →
    ∃ t, exec .odometrySlot s = .next (chooseIfIdle t) ∧ t.odo.u = slotUncertainty s ∧
      (t.odo.trust = true ↔
        (s.odo.trust = true ∧ t.odo.u ≤ s.params.uMax * 10000) ∨
        (s.odo.trust = false ∧ t.odo.u ≤ s.params.uResume * 10000)) ∧
      t.odo.captures =
        s.odo.captures.filter (fun c => decide (t.odo.pos - c.position ≤ s.params.captureExpiry)) ∧
      t.odo.nextNumber = s.odo.nextNumber ∧ t.odo.marker = s.odo.marker ∧
      t.odo.markerCount = s.odo.markerCount ∧
      t.geo.committed = s.geo.committed.dropWhile
        (fun g => decide (g.stop ≤ t.odo.pos - tailOffset s - s.params.releaseMargin)) ∧
      t.geo.batch = s.geo.batch ∧ LookAheadEvaluated s t ∧
      t.ring = s.ring.dropWhile
        (fun x => decide (x.position < t.odo.pos - tailOffset s - s.params.reactiveWindow)) ∧
      t.link = { s.link with notices := { s.link.notices with
        position := t.link.notices.position, geometry := t.link.notices.geometry } } ∧
      (t.link.notices.position.pending = true ↔
        s.link.notices.position.pending = true ∨
        (∃ n, (s.odo.tacho n).failed = false ∧ failedAfter s n = true) ∨ isSlide s = true ∨
        t.odo.trust ≠ s.odo.trust ∨
        ∃ c ∈ s.odo.captures, (s.params.captureExpiry : Int) < t.odo.pos - c.position) ∧
      t.link.notices.position.flags =
        ((((s.link.notices.position.flags |||
          (if (s.odo.tachoA.failed = false ∧ failedAfter s .a = true) ∨
              (s.odo.tachoB.failed = false ∧ failedAfter s .b = true) then 64#16 else 0#16)) |||
          (if isSlide s then 32#16 else 0#16)) |||
          (if t.odo.trust = s.odo.trust then 0#16 else 16#16)) |||
          (if ∃ c ∈ s.odo.captures, (s.params.captureExpiry : Int) < t.odo.pos - c.position then 8#16 else 0#16))

/-! ## The planner, the channels and the limiter -/

/-- A computation writes one record per car by the first row of R103 that holds, bounds the target of a FOLLOWING car
under LOCAL, delivers the targets, and keeps everything else but the exhaustion latch, its notice and the telemetry
count, which falls by one and raises TELEMETRY at 0; without a formation it does nothing (R99, R100, R102, R103, R104,
R111, R112, R113, R114, R116, R117, R183). TargetsRespectCapsAndGangways spells the arithmetic of the targets named
here. -/
def Obligations.ComputationsChooseASourcePerCar : Prop :=
  ∀ (s : State), Running s → TableLaw s →
    (s.cars = [] → exec .plannerComputation s = .next s) ∧
    (s.cars ≠ [] → ∃ t, exec .plannerComputation s = .next (chooseIfIdle t) ∧
      t.plan.records.length = s.cars.length ∧
      t.plan.delivered = some (t.plan.records.map (fun r => { angle := r.target, source := r.source })) ∧
      t = { s with
            plan := t.plan
            link := { s.link with
              countdown := t.link.countdown
              notices := { s.link.notices with
                geometry := t.link.notices.geometry, telemetry := t.link.notices.telemetry } } } ∧
      CountsReport s t ∧
      (t.plan.exhausted = true ↔ s.ctl.mode = .active ∧ ∃ c ∈ s.cars, ∃ n, c.node = some n ∧
        ∀ g, s.geo.committed.getLast? = some g → g.stop ≤ frontAt s c n) ∧
      t.link.notices.geometry =
        (if t.plan.exhausted = true ∧ s.plan.exhausted = false then
          { pending := true, flags := s.link.notices.geometry.flags ||| 2#16 } else s.link.notices.geometry) ∧
      (∀ k c r, s.cars[k]? = some c → t.plan.records[k]? = some r →
        (c.node = none → r = { target := 0, source := .none, front := none, rear := none, fallback := false }) ∧
        (∀ n, c.node = some n →
          (s.ctl.run = false → r.source = .none ∧ r.front = none ∧ r.rear = none ∧ r.fallback = false) ∧
          (s.ctl.run = true →
            r.front = some (s.odo.pos - c.front + ((s.odo.v * n.lead / 1000 : Nat) : Int)) ∧
            r.rear = some (s.odo.pos - c.rear + ((s.odo.v * n.lead / 1000 : Nat) : Int)) ∧
            (s.odo.v < s.params.speedMin → r.source = .none ∧ r.fallback = false) ∧
            (s.params.speedMin ≤ s.odo.v →
              (∀ gf gr, s.geo.at (frontAt s c n) = some gf → s.geo.at (rearAt s c n) = some gr →
                r.fallback = !s.odo.trust ∧ (s.odo.trust = true → r.source = .pred)) ∧
              (s.geo.at (frontAt s c n) = none ∨ s.geo.at (rearAt s c n) = none → r.fallback = false) ∧
              (s.odo.trust = false ∨ s.geo.at (frontAt s c n) = none ∨ s.geo.at (rearAt s c n) = none →
                (r.source = .react ↔ s.params.reactiveEnable = true ∧ sensingBound s = true ∧
                  meanAt (queryPosition s c n) s.params.reactiveWindow s.ring ≠ none) ∧
                (r.source = .react ∨ r.source = .none)))) ∧
          (s.params.faultPolicy = .whole ∨ isFollowing s k = false →
            (r.source = .none → r.target = 0) ∧
            (∀ gf gr, r.source = .pred → s.geo.at (frontAt s c n) = some gf → s.geo.at (rearAt s c n) = some gr →
              r.target = predTarget s (frontAt s c n) (rearAt s c n) gf gr) ∧
            (∀ m, r.source = .react → meanAt (queryPosition s c n) s.params.reactiveWindow s.ring = some m →
              r.target = reactTarget s m)) ∧
          (s.params.faultPolicy = .isolated → isFollowing s k = true →
            (r.source = .none → r.target = boundTarget s k 0) ∧
            (∀ gf gr, r.source = .pred → s.geo.at (frontAt s c n) = some gf → s.geo.at (rearAt s c n) = some gr →
              r.target = boundTarget s k (predTarget s (frontAt s c n) (rearAt s c n) gf gr)) ∧
            (∀ m, r.source = .react → meanAt (queryPosition s c n) s.params.reactiveWindow s.ring = some m →
              r.target = boundTarget s k (reactTarget s m))))))

/-- The arithmetic of a target, step by step: the positions asked about, the segment there and its interpolation, the
means over the bogies, the lateral acceleration, the angle and the caps of the predictive method; the sensing car, the
query position, the mean and the angle of the reactive one. Targets before the envelope lie within ±thetaMax, and a
predictive one within the cap of either segment; the gangway envelope under LOCAL leaves a FOLLOWING car's target
within adjacentMax per gangway of every pinned car wherever one angle can be, as it is where it already was, and
midway between the bounds where none can be. R63, R93 and R106 to R109 are stated whole; of R65, R102, R103, R110 and
R112 to R114 only the arithmetic. -/
def Obligations.TargetsRespectCapsAndGangways : Prop :=
  (∀ n d : Int, 0 < d → IsRounded (rounded n d) n d ∧ IsTruncated (truncated n d) n d) ∧
  (∀ (geo : GeoStore) (p : Int),
    (∀ g, geo.at p = some g → g ∈ geo.committed ∧ g.start ≤ p ∧ p < g.start + g.length) ∧
    (geo.at p = none ↔ ∀ g ∈ geo.committed, ¬(g.start ≤ p ∧ p < g.start + g.length))) ∧
  (∀ (s : State) (c : Car) (n : CarNode),
    frontAt s c n = s.odo.pos - c.front + ((s.odo.v * n.lead / 1000 : Nat) : Int) ∧
    rearAt s c n = s.odo.pos - c.rear + ((s.odo.v * n.lead / 1000 : Nat) : Int)) ∧
  (∀ (s : State),
    ((∀ c ∈ s.cars, c.sensing = false) → sensingBound s = false) ∧
    (∀ k c, s.cars[k]? = some c → c.sensing = true →
      (∀ j d, s.cars[j]? = some d → d.sensing = true → j = k) → sensingBound s = isBound s k)) ∧
  (∀ (g : Segment) (p : Int),
    g.curve p = g.curveStart + rounded ((g.curveStop - g.curveStart) * (p - g.start)) g.length ∧
    g.cant p = g.cantStart + rounded ((g.cantStop - g.cantStart) * (p - g.start)) g.length) ∧
  (∀ (s : State) (pf pr : Int) (gf gr : Segment) (k h a angle : Int),
    k = truncated (gf.curve pf + gr.curve pr) 2 → h = truncated (gf.cant pf + gr.cant pr) 2 →
    a = clamp (rounded ((s.odo.v : Int) ^ 2 * k) 10000000 - rounded (9807 * h) s.params.trackBase) (-4000) 4000 →
    angle = clamp (rounded (s.params.compPredictive * a * 57296) 9807000) (-s.params.thetaMax) s.params.thetaMax →
    (gf.cap = none → gr.cap = none → predTarget s pf pr gf gr = angle) ∧
    (∀ x, gf.cap = some x → gr.cap = none → predTarget s pf pr gf gr = clamp angle (-x) x) ∧
    (∀ x, gf.cap = none → gr.cap = some x → predTarget s pf pr gf gr = clamp angle (-x) x) ∧
    (∀ x y, gf.cap = some x → gr.cap = some y →
      predTarget s pf pr gf gr = clamp angle (-(min x y)) (min x y))) ∧
  (∀ (s : State) (c : Car) (n : CarNode) (m : Int),
    queryPosition s c n =
      s.odo.pos - truncated ((c.front : Int) + c.rear) 2 + ((s.odo.v * n.lead / 1000 : Nat) : Int) ∧
    reactTarget s m =
      clamp (rounded (s.params.compReactive * clamp m (-4000) 4000 * 57296) 9807000)
        (-s.params.thetaMax) s.params.thetaMax) ∧
  (∀ (ring felt : List Sample) (q at' window : Int), (ring = [] → at' = q) →
    (∀ y, ring.getLast? = some y → at' = min q y.position) →
    felt = ring.filter (fun x => decide (at' - window ≤ x.position ∧ x.position ≤ at')) →
    (felt = [] → meanAt q window ring = none) ∧
    (felt ≠ [] → meanAt q window ring = some (truncated (felt.map Sample.accel).sum felt.length))) ∧
  (∀ (s : State) (k : Nat) (t low high : Int), s.params.faultPolicy = .isolated → isFollowing s k = true →
    (∃ j a, (j, a) ∈ pinnedCars s ∧ low = a - s.params.adjacentMax * ((k : Int) - j).natAbs) →
    (∀ j a, (j, a) ∈ pinnedCars s → a - s.params.adjacentMax * ((k : Int) - j).natAbs ≤ low) →
    (∃ j a, (j, a) ∈ pinnedCars s ∧ high = a + s.params.adjacentMax * ((k : Int) - j).natAbs) →
    (∀ j a, (j, a) ∈ pinnedCars s → high ≤ a + s.params.adjacentMax * ((k : Int) - j).natAbs) →
    (low ≤ high → boundTarget s k t = clamp t low high) ∧
    (high < low → boundTarget s k t = rounded (low + high) 2)) ∧
  (∀ (s : State) (pf pr : Int) (gf gr : Segment),
    (∀ x, gf.cap = some x → 0 ≤ x) → (∀ x, gr.cap = some x → 0 ≤ x) →
    (predTarget s pf pr gf gr).natAbs ≤ s.params.thetaMax ∧
    (∀ m, gf.cap = some m → (predTarget s pf pr gf gr).natAbs ≤ m.natAbs) ∧
    (∀ m, gr.cap = some m → (predTarget s pf pr gf gr).natAbs ≤ m.natAbs)) ∧
  (∀ (s : State) (m : Int), (reactTarget s m).natAbs ≤ s.params.thetaMax) ∧
  (∀ (s : State) (k : Nat) (t : Int), s.params.faultPolicy = .isolated → isFollowing s k = true →
    (∀ x, (∀ j a, (j, a) ∈ pinnedCars s → (x - a).natAbs ≤ s.params.adjacentMax * (gangways k j).natAbs) →
      ∀ j a, (j, a) ∈ pinnedCars s →
        (boundTarget s k t - a).natAbs ≤ s.params.adjacentMax * (gangways k j).natAbs) ∧
    ((∀ j a, (j, a) ∈ pinnedCars s → (t - a).natAbs ≤ s.params.adjacentMax * (gangways k j).natAbs) →
      boundTarget s k t = t)) ∧
  (∀ (s : State) (k : Nat) (t : Int), s.params.faultPolicy = .whole ∨ isFollowing s k = false →
    boundTarget s k t = t) ∧
  (∀ (s : State) (k : Nat) (t : Int), (∀ j a, (j, a) ∈ pinnedCars s → a.natAbs ≤ s.params.thetaMax) →
    t.natAbs ≤ s.params.thetaMax → (boundTarget s k t).natAbs ≤ s.params.thetaMax) ∧
  (∀ (s : State) (j : Nat) (a : Int), (j, a) ∈ pinnedCars s ↔
    j < s.cars.length ∧ ∃ c, s.chans[j]? = some c ∧ c.state ≠ .following ∧
      a = (if c.state = .returning then c.theta else 0))

/-- The arrival of a target list: FOLLOWING entry by the conditions of R125, one limiter pass for each FOLLOWING and
RETURNING car, CENTRED at rest, nothing for the others; CENTRE_OK is re-evaluated (R125, R127, R128). That with no
list delivered nothing arrives, and that a car beyond the end of the list has target 0, are the model's reading (log
entry 12). -/
def Obligations.TargetListsMoveTheCars : Prop :=
  ∀ (s : State), Running s →
    (s.plan.delivered = none → exec .targetListArrival s = .next s) ∧
    (∀ l, s.plan.delivered = some l → ∃ t, exec .targetListArrival s = .next t ∧
      t = { s with plan := { s.plan with delivered := none }, chans := t.chans,
                   ctl := { s.ctl with centreOk := centreConditions t } } ∧
      t.chans.length = s.chans.length ∧
      (∀ k c, s.chans[k]? = some c →
        (c.state = .notFitted ∨ c.state = .absent ∨ c.state = .failed → t.chans[k]? = some c) ∧
        (c.state = .following → t.chans[k]? = some (limiterPass s.params (targetFor l k) c)) ∧
        (c.state = .returning →
          t.chans[k]? = some
            (if (limiterPass s.params 0 c).theta = 0 ∧ (limiterPass s.params 0 c).step = 0 then
              { limiterPass s.params 0 c with state := .centred } else limiterPass s.params 0 c)) ∧
        (c.state = .centred →
          (s.ctl.mode = .active ∧ c.cond = some .ready ∧
              (∃ a, c.angle = some a ∧ a.natAbs ≤ s.params.centreBand) ∧
              (s.params.faultPolicy = .isolated ∨ ∀ d ∈ s.chans, d.state ≠ .failed ∧ d.state ≠ .absent) →
            t.chans[k]? = some
              (limiterPass s.params (targetFor l k) { c with state := .following, theta := 0, step := 0 })) ∧
          (¬(s.ctl.mode = .active ∧ c.cond = some .ready ∧
              (∃ a, c.angle = some a ∧ a.natAbs ≤ s.params.centreBand) ∧
              (s.params.faultPolicy = .isolated ∨ ∀ d ∈ s.chans, d.state ≠ .failed ∧ d.state ≠ .absent)) →
            t.chans[k]? = some c))))

/-- At the arrival of a target list each FOLLOWING car makes one limiter pass toward its target and each RETURNING car
one toward 0, in the seven steps of R129, whatever the angle, step and target: b is the largest integer that step 4
allows, and the new angle and step are the braked, limited and clamped ones. -/
def Obligations.LimiterPassesFollowTheirSevenSteps : Prop :=
  ∀ (s : State) (l : List Target) (k : Nat) (c : Channel) (g : Target) (t e s1 s2 s3 : Int) (b : Nat),
    Running s → s.plan.delivered = some l → s.chans[k]? = some c → l[k]? = some g →
    (c.state = .following ∧ t = g.angle) ∨ (c.state = .returning ∧ t = 0) →
    e = t - c.theta → s1 = clamp e (c.step - s.params.dStep) (c.step + s.params.dStep) →
    s2 = clamp s1 (-s.params.sMax) s.params.sMax →
    b * (b + s.params.dStep) ≤ 2 * s.params.dStep * e.natAbs →
    2 * s.params.dStep * e.natAbs < (b + 1) * (b + 1 + s.params.dStep) →
    (0 ≤ e → (b : Int) < s2 → s3 = max (b : Int) (c.step - s.params.dStep)) → (0 ≤ e → s2 ≤ b → s3 = s2) →
    (e < 0 → s2 < -(b : Int) → s3 = min (-(b : Int)) (c.step + s.params.dStep)) →
    (e < 0 → -(b : Int) ≤ s2 → s3 = s2) →
    ∃ u d, exec .targetListArrival s = .next u ∧ u.chans[k]? = some d ∧
      d.theta = clamp (c.theta + s3) (-s.params.thetaMax) s.params.thetaMax ∧ d.step = d.theta - c.theta ∧
      d = { c with state := d.state, theta := d.theta, step := d.step }

/-- Between two passes a set-point within its limit changes by at most sMax and stays within thetaMax, and its step
before the last clamp changes by at most dStep (R130). -/
def Obligations.LimiterBoundsAngleRateAndAcceleration : Prop :=
  ∀ (p : Params) (c : Channel) (t : Int), c.theta.natAbs ≤ p.thetaMax → c.step.natAbs ≤ p.sMax →
    (limiterPass p t c).theta.natAbs ≤ p.thetaMax ∧
    ((limiterPass p t c).theta - c.theta).natAbs ≤ p.sMax ∧
    (limiterPass p t c).step.natAbs ≤ p.sMax ∧
    (limitedStep p t c.theta c.step - c.step).natAbs ≤ p.dStep

/-! ## The car line -/

/-- The cycle timer starts a cycle only on a CYCLING line whose last cycle has ended: the set-points of the bound cars
are taken and sent, "centre" for every other address. A delivered frame clears the mismatch count and opens its
exchange; after SET the first address held is asked, or the maintenance slot follows (R139, R146, R152, R153, R154,
R156, R157; the frame of a cycle that was cut off: log entry 8). -/
def Obligations.CyclesBroadcastSetPointsAndFramesOpenTheirExchange : Prop :=
  ∀ (s : State), Running s →
    (s.line.state ≠ .cycling ∨ s.line.exch ≠ .quiet → exec .lineCycle s = .next s) ∧
    (s.line.state = .cycling → s.line.exch = .quiet → ∃ points, exec .lineCycle s = .next
        { s with chans := s.chans.mapIdx (fun k c => if isBound s k then { c with sent := c.theta } else c),
                 line := { s.line with exch := .echo (.set points) } } ∧
      points.length = 15 ∧
      (∀ k c, s.chans[k]? = some c → k < 12 →
        points[k]? = some (if isBound s k then some c.theta else none)) ∧
      (∀ k, k < 15 → isBound s k = false ∨ 12 ≤ k → points[k]? = some none)) ∧
    (s.line.exch = .echo .muster → ∀ m, s.line.muster = some m → exec (.frameEcho true) s = .next
      { s with line := { s.line with echoCount := 0, exch := .echo .claim,
                                     muster := some { m with round := m.round + 1 } } }) ∧
    (s.line.exch = .echo .claim → exec (.frameEcho true) s = .next
      { s with line := { s.line with echoCount := 0, exch := .round } }) ∧
    (∀ a, s.line.exch = .echo (.ask a) → exec (.frameEcho true) s = .next
      { s with line := { s.line with echoCount := 0, exch := .stat a } }) ∧
    (∀ a w i v, s.line.exch = .echo (.mreq a w i v) → exec (.frameEcho true) s = .next
      { s with line := { s.line with echoCount := 0, exch := .mrsp } }) ∧
    (s.line.exch = .echo .call → exec (.frameEcho true) s = .next
      { s with line := { s.line with echoCount := 0, exch := .window } }) ∧
    (∀ a, s.line.exch = .echo (.leave a) ∨ s.line.exch = .takeEcho a none → exec (.frameEcho true) s = .next
      { s with line := { s.line with echoCount := 0, exch := .quiet } }) ∧
    (∀ points, s.line.exch = .echo (.set points) →
      ∃ t, exec (.frameEcho true) s = .next (chooseIfIdle t) ∧ t.line.echoCount = 0 ∧
      t.chans = s.chans ∧ t.line.nodes = s.line.nodes ∧ t.line.foreign = s.line.foreign ∧ t.ctl = s.ctl ∧
      t.link.notices = s.link.notices ∧ FollowsAsk s t 0) ∧
    (s.line.exch = .cut → exec (.frameEcho true) s = .next
      { s with line := { s.line with
          echoCount := 0, exch := if s.line.state = .mustering then .echo .muster else .quiet } })

/-- A frame whose echo does not match is counted and has no effect on bindings, tables, queues of alerts or
set-points, below the third in a row, and the muster or the cycle goes on by the table of R146; a TAKE takes nothing;
the third halts the line: bound cars fail, the maintenance queue and a muster are completed, the RollCall with the
counts and the parked list of the halt, ACTIVE and INHIBITED become STANDBY, LINE is raised (R31, R135, R146, R150,
R151, R154, R156, R162). The halt as a command, what follows the echo of a frame that was cut off and the flag of a
24th round that ends with a mismatch are the model's (log entries 4, 8 and 10). -/
def Obligations.EchoMismatchesAreCountedAndTheThirdHalts : Prop :=
  ∀ (s : State), Running s →
    (∀ f, s.line.exch = .echo f → s.line.echoCount < 2 → ∃ t, exec (.frameEcho false) s = .next (chooseIfIdle t) ∧
      t.line.echoTotal = countUp s.line.echoTotal 65535 ∧ t.line.echoCount = s.line.echoCount + 1 ∧
      t.line.nodes = s.line.nodes ∧ t.line.foreign = s.line.foreign ∧ t.line.parked = s.line.parked ∧
      t.line.alerts = s.line.alerts ∧ t.chans = s.chans ∧ t.ctl.mode = s.ctl.mode ∧ t.odo = s.odo ∧
      (∀ points, f = .set points → FollowsAsk s t 0) ∧ (∀ a, f = .ask a → FollowsAsk s t a) ∧
      (∀ a w i v, f = .mreq a w i v → t.line.exch = .echo .call ∧ t.line.maint = s.line.maint ∧ t.link = s.link) ∧
      (f = .call ∨ (∃ a, f = .leave a) → t.line.exch = .quiet ∧ t.line.maint = s.line.maint ∧ t.link = s.link) ∧
      (s.line.state ≠ .mustering → (∃ x a, f = .name x a) ∨ (∃ x, f = .park x) →
        t.line.exch = .quiet ∧ t.line.maint = s.line.maint ∧ t.link = s.link) ∧
      (∀ m, f = .muster → s.line.muster = some m →
        t.line.exch = .echo .claim ∧ t.line.muster = some { m with round := m.round + 1 } ∧ t.link = s.link) ∧
      (∀ m, s.line.state = .mustering → s.line.muster = some m →
        f = .claim ∨ (∃ x a, f = .name x a) ∨ (∃ x, f = .park x) →
        (m.round < 24 →
          t.line.exch = .echo .claim ∧ t.line.muster = some { m with round := m.round + 1 } ∧ t.link = s.link) ∧
        (24 ≤ m.round → t.line.state = .cycling ∧ t.line.exch = .quiet ∧ t.line.muster = none ∧
          t.link.notices = (if f = .claim then s.link.notices else s.link.notices.raise .line 8#16) ∧
          t.link.completions = s.link.completions ++
            [{ kind := 0xB0#8, tag := m.tag,
               body := [0, 0, 0, 0, u8 (boundCount s), u8 (missingCount s), u8 s.line.foreign.count,
                        u8 s.line.parked.length] ++ s.line.parked.flatMap bytes4 }]))) ∧
    (∀ a x, s.line.exch = .takeEcho a x → s.line.echoCount < 2 → exec (.frameEcho false) s = .next
      { s with line := { s.line with
          echoTotal := countUp s.line.echoTotal 65535, echoCount := s.line.echoCount + 1, exch := .quiet } }) ∧
    (s.line.exch = .cut → s.line.echoCount < 2 → exec (.frameEcho false) s = .next
      { s with line := { s.line with
          echoTotal := countUp s.line.echoTotal 65535, echoCount := s.line.echoCount + 1,
          exch := if s.line.state = .mustering then .echo .muster else .quiet } }) ∧
    (∀ c, TableLaw s → BindingLaw s →
      (c = .frameEcho false ∧ s.line.echoCount = 2 ∧
          ((∃ f, s.line.exch = .echo f) ∨ s.line.exch = .cut ∨ ∃ a x, s.line.exch = .takeEcho a x)) ∨
        (c = .lineHalt ∧ (s.line.state = .mustering ∨ s.line.state = .cycling)) →
      ∃ t, exec c s = .next (chooseIfIdle t) ∧ t.line.state = .halted ∧ t.line.exch = .quiet ∧ t.line.echoCount = 0 ∧
        t.line.echoTotal = countUp s.line.echoTotal 65535 ∧ t.line.maint = [] ∧ t.line.muster = none ∧
        t.line.nodes = s.line.nodes ∧ t.line.foreign = s.line.foreign ∧ t.line.parked = s.line.parked ∧
        t.line.alerts = s.line.alerts ∧ t.odo = s.odo ∧ t.geo = s.geo ∧ t.params = s.params ∧
        t.ctl.centreOk = false ∧ t.ctl.run = s.ctl.run ∧ t.ctl.latch = s.ctl.latch ∧
        t.ctl.inhibit = s.ctl.inhibit ∧
        (s.ctl.mode = .active ∨ s.ctl.mode = .inhibited →
          t.ctl.mode = .standby ∧ t.ctl.cause = .lineHalted ∧ t.link.notices.mode.pending = true) ∧
        (s.ctl.mode = .setup ∨ s.ctl.mode = .standby →
          t.ctl.mode = s.ctl.mode ∧ t.ctl.cause = s.ctl.cause ∧
          t.link.notices.mode = s.link.notices.mode) ∧
        t.link.notices.line = { pending := true, flags := s.link.notices.line.flags ||| 1#16 } ∧
        (∀ k d, s.chans[k]? = some d → isBound s k = true →
          (isNews .lineHalted d = true → t.link.notices.cars.pending = true) ∧
          ∃ e, t.chans[k]? = some e ∧ GainsFault .lineHalted d e) ∧
        (∀ k d, s.chans[k]? = some d → isBound s k = false → d.state ≠ .following → t.chans[k]? = some d) ∧
        ∃ done, t.link.completions =
            s.link.completions ++ s.line.maint.map (fun e => transferFrame e .lineStopped 0#16) ++ done ∧
          (s.line.muster = none → done = []) ∧
          (∀ m, s.line.muster = some m → done =
            [{ kind := 0xB0#8, tag := m.tag,
               body := [7, 16, 0, 0, u8 (boundCount s), u8 (missingCount s), u8 s.line.foreign.count,
                        u8 s.line.parked.length] ++ s.line.parked.flatMap bytes4 }]))

/-- A good STAT at the address asked clears the miss count and acts on its car by the four steps of R131, with the
tracking test of R132: the condition FAULT or the tracking limit fails it, and no other channel changes unless it
fails under WHOLE; the sensing car's acceleration enters the ring in a run; no other block changes but CENTRE_OK and
the CARS notice of a fault, and the next address is asked. A STAT of a node whose binding has ended since it was
asked, or of a foreign node, reaches neither the channel nor the ring (R88, R89, R127, R131, R132, R134, R135, R141,
R145, R154, R156). -/
def Obligations.GoodStatsActOnTheirCar : Prop :=
  ∀ (s : State) (k : Nat) (angle : Int) (cond : NodeCond) (flags : NodeFlags) (acc : Option Int) (c : Channel)
    (n : NodeLink), Running s → s.line.exch = .stat (k + 1) →
    (12 ≤ k ∨ isBound s k = false → ∃ t, exec (.stat (k + 1) angle cond flags acc) s = .next (chooseIfIdle t) ∧
      t.line.nodes = s.line.nodes ∧ t.chans = s.chans ∧ t.ring = s.ring ∧ t.odo = s.odo ∧ t.ctl = s.ctl ∧
      t.link.notices = s.link.notices ∧ FollowsAsk s t (k + 1)) ∧
    (k < 12 → isBound s k = true → s.chans[k]? = some c → s.line.nodes[k]? = some n →
    ∃ t, exec (.stat (k + 1) angle cond flags acc) s = .next (chooseIfIdle t) ∧
      t.line.nodes = s.line.nodes.set k { n with miss := 0 } ∧ t.odo = s.odo ∧ t.geo = s.geo ∧ t.plan = s.plan ∧
      t.params = s.params ∧ t.cars = s.cars ∧ t.ctl = { s.ctl with centreOk := centreConditions t } ∧
      FollowsAsk s t (k + 1) ∧
      ((∀ d, s.cars[k]? = some d → d.sensing = false) ∨ acc = none ∨ s.ctl.run = false → t.ring = s.ring) ∧
      (∀ d a, s.cars[k]? = some d → d.sensing = true →
        (∀ j b, s.cars[j]? = some b → b.sensing = true → j = k) → acc = some a → s.ctl.run = true →
        -2147483648 ≤ s.odo.pos - d.front →
        ∃ kept, kept = s.ring.filter (fun y => decide (y.position < s.odo.pos - d.front)) ∧
          t.ring = (if kept.length < 1024 then kept else kept.drop 1) ++
            [Sample.mk (s.odo.pos - d.front) (clamp a (-8000) 8000)]) ∧
      (∀ r, r = { c with angle := some (clamp angle (-12000) 12000), cond := some cond,
                         flags := unionFlags c.flags flags } →
        (cond = .fault → AddsFault .nodeFault k r s t) ∧
        (cond ≠ .fault → c.state = .notFitted ∨ c.state = .absent ∨ c.state = .failed →
          t.chans = s.chans.set k r ∧ t.link.notices = s.link.notices) ∧
        (cond ≠ .fault → c.state = .centred ∨ c.state = .following ∨ c.state = .returning →
          ((clamp angle (-12000) 12000 - c.sent).natAbs ≤ s.params.trackBand → 0 < s.params.trackLimit →
            t.link.notices = s.link.notices ∧ t.chans = s.chans.set k
              { r with trackCount := 0,
                       state := if c.state = .following ∧ cond = .notReady then .returning else c.state }) ∧
          (s.params.trackBand < (clamp angle (-12000) 12000 - c.sent).natAbs →
            countUp c.trackCount 200 < s.params.trackLimit →
            t.link.notices = s.link.notices ∧ t.chans = s.chans.set k
              { r with trackCount := countUp c.trackCount 200,
                       state := if c.state = .following ∧ cond = .notReady then .returning else c.state }) ∧
          (s.params.trackBand < (clamp angle (-12000) 12000 - c.sent).natAbs →
            s.params.trackLimit ≤ countUp c.trackCount 200 →
            AddsFault .tracking k r s t))))

/-- The tracking test as a command, silence and losses: the test counts or fails on the recorded angle; a silent ASK
is a miss and the third loses the node, which ends its binding with NODE_LOST; a car that either fails returns the
FOLLOWING cars under WHOLE and changes no other under LOCAL; the next address is then asked; a silent MREQ completes
its entry NO_ANSWER, a good MRSP completes it DONE or NODE_REFUSED with its value, and CALL follows; a reply of
another kind or address is as silence (R127, R132, R134, R135, R145, R154, R155, R156, R189; the inner events as
commands: log entry 4). -/
def Obligations.MissesLoseNodesAndTransfersComplete : Prop :=
  ∀ (s : State), Running s →
    (∀ k c a, isBound s k = true → s.chans[k]? = some c → c.angle = some a →
      c.state = .centred ∨ c.state = .following ∨ c.state = .returning →
      ((a - c.sent).natAbs ≤ s.params.trackBand → 0 < s.params.trackLimit →
        exec (.tracking k) s = .next { s with chans := s.chans.set k { c with trackCount := 0 } }) ∧
      (s.params.trackBand < (a - c.sent).natAbs → countUp c.trackCount 200 < s.params.trackLimit →
        exec (.tracking k) s = .next
          { s with chans := s.chans.set k { c with trackCount := countUp c.trackCount 200 } }) ∧
      (s.params.trackBand < (a - c.sent).natAbs → s.params.trackLimit ≤ countUp c.trackCount 200 →
        ∃ t, exec (.tracking k) s = .next (chooseIfIdle t) ∧ AddsFault .tracking k c s t ∧
          t = { s with
                chans := t.chans
                ctl := { s.ctl with centreOk := centreConditions t }
                link := { s.link with notices := { s.link.notices with cars := t.link.notices.cars } } })) ∧
    (∀ k, isBound s k = false ∨ (∃ c, s.chans[k]? = some c ∧
        (c.state = .notFitted ∨ c.state = .absent ∨ c.state = .failed)) → exec (.tracking k) s = .next s) ∧
    (∀ k, isBound s k = false → exec (.nodeLost k) s = .next s) ∧
    (∀ k, s.line.exch = .stat (k + 1) → 12 ≤ k ∨ isBound s k = false →
      ∃ t, exec .replySilence s = .next (chooseIfIdle t) ∧ t.line.nodes = s.line.nodes ∧ t.chans = s.chans ∧
        t.ctl = s.ctl ∧ t.odo = s.odo ∧ t.link.notices = s.link.notices ∧ FollowsAsk s t (k + 1)) ∧
    (∀ k n, k < 12 → s.line.exch = .stat (k + 1) → isBound s k = true → s.line.nodes[k]? = some n → n.miss < 2 →
      ∃ t, exec .replySilence s = .next (chooseIfIdle t) ∧
        t.line.nodes = s.line.nodes.set k { n with miss := n.miss + 1 } ∧ t.chans = s.chans ∧
        t.ctl = s.ctl ∧ t.odo = s.odo ∧ t.link.notices = s.link.notices ∧ FollowsAsk s t (k + 1)) ∧
    (∀ k n c d, s.line.nodes[k]? = some n → isBound s k = true → s.chans[k]? = some d →
      (c = .replySilence ∧ k < 12 ∧ s.line.exch = .stat (k + 1) ∧ n.miss = 2) ∨ c = .nodeLost k →
      ∃ t, exec c s = .next (chooseIfIdle t) ∧ t.line.nodes = s.line.nodes.set k { serial := none, miss := 0 } ∧
        AddsFault .nodeLost k d s t ∧ t.odo = s.odo ∧ t.line.foreign = s.line.foreign ∧
        (s.line.exch = .stat (k + 1) → FollowsAsk s t (k + 1)) ∧
        (s.line.exch ≠ .stat (k + 1) → t.line.exch = s.line.exch ∧ t.line.maint = s.line.maint ∧
          t.link.completions = s.link.completions)) ∧
    (∀ a b angle cond flags acc ok v kind detail, s.line.exch = .stat a →
      (b ≠ a → exec (.stat b angle cond flags acc) s = exec .replySilence s) ∧
      exec (.mrsp b ok v) s = exec .replySilence s ∧ exec (.alrt b kind detail) s = exec .replySilence s) ∧
    (∀ e rest b angle cond flags acc ok v kind detail, s.line.exch = .mrsp → s.line.maint = e :: rest →
      exec (.stat b angle cond flags acc) s = exec .replySilence s ∧
      (b ≠ e.car + 1 → exec (.mrsp b ok v) s = exec .replySilence s) ∧
      exec (.alrt b kind detail) s = exec .replySilence s) ∧
    (∀ e rest, s.line.exch = .mrsp → s.line.maint = e :: rest →
      exec .replySilence s = .next (chooseIfIdle
          { s with line := { s.line with maint := rest, exch := .echo .call },
                   link := { s.link with completions := s.link.completions ++
                             [{ kind := 0xB1#8, tag := e.tag, body := [12, 0, 0, 0, 0, 0, 0, 0] }] } }) ∧
      (∀ ok value, exec (.mrsp (e.car + 1) ok value) s = .next (chooseIfIdle
          { s with line := { s.line with maint := rest, exch := .echo .call },
                   link := { s.link with completions := s.link.completions ++
                             [{ kind := 0xB1#8, tag := e.tag,
                                body := [if ok then 10 else 11, 0, 0, 0] ++ bytes2 value ++ [0, 0] }] } })))

/-- The rounds of a muster: a claim is answered by the first case of R149 that applies: its car's address, the foreign
address that holds the serial, the highest foreign address that holds nothing, PARK; a delivered NAME binds its car,
CENTRED and yet to report, or makes a foreign entry, a delivered PARK parks the serial, and the next round follows; a
garbled round is followed by the next; the 24th round ends the muster with OVERFULL if it drew a claim or was garbled;
a round without a claim ends it: the line is CYCLING and the RollCall is completed OK with its counts, bound and
missing together the tilting count (R2, R122, R147, R149, R150; the end as a command: log entry 4). -/
def Obligations.MusterRoundsNameAndEnd : Prop :=
  ∀ (s : State), Running s → s.line.state = .mustering → ∀ m, s.line.muster = some m →
    (s.line.exch = .round →
      (∀ x k, ownSerial s k = some x → (∀ j, ownSerial s j = some x → j = k) →
        exec (.claimRound (.claim x)) s =
          .next { s with line := { s.line with exch := .echo (.name x (k + 1)) } }) ∧
      (∀ x, (∀ k, ownSerial s k ≠ some x) →
        (∀ a, s.line.foreign.get a = some x → (∀ b, s.line.foreign.get b = some x → b = a) →
          exec (.claimRound (.claim x)) s = .next { s with line := { s.line with exch := .echo (.name x a) } }) ∧
        ((∀ a, s.line.foreign.get a ≠ some x) →
          (∀ a, 13 ≤ a → a ≤ 15 → s.line.foreign.get a = none →
            (∀ b, a < b → b ≤ 15 → s.line.foreign.get b ≠ none) →
            exec (.claimRound (.claim x)) s =
              .next { s with line := { s.line with exch := .echo (.name x a) } }) ∧
          ((∀ a, 13 ≤ a → a ≤ 15 → s.line.foreign.get a ≠ none) →
            exec (.claimRound (.claim x)) s =
              .next { s with line := { s.line with exch := .echo (.park x) } }))) ∧
      (m.round < 24 → exec (.claimRound .garbled) s = .next
        { s with line := { s.line with exch := .echo .claim, muster := some { m with round := m.round + 1 } } })) ∧
    (∀ f, s.line.exch = .echo f → (∃ x a, f = .name x a) ∨ (∃ x, f = .park x) →
      ∃ t, exec (.frameEcho true) s = .next (chooseIfIdle t) ∧ t.line.echoCount = 0 ∧ t.line.alerts = s.line.alerts ∧
        t.odo = s.odo ∧ t.ctl = { s.ctl with centreOk := t.ctl.centreOk } ∧
        (m.round < 24 → t.line.exch = .echo .claim ∧ t.line.state = .mustering ∧
          t.line.muster = some { m with round := m.round + 1 } ∧ t.link = s.link) ∧
        (24 ≤ m.round → t.line.exch = .quiet ∧ t.line.state = .cycling ∧ t.line.muster = none ∧
          t.link.notices = s.link.notices.raise .line 8#16 ∧
          t.link.completions = s.link.completions ++
            [{ kind := 0xB0#8, tag := m.tag,
               body := [0, 0, 0, 0, u8 (boundCount t), u8 (missingCount t), u8 t.line.foreign.count,
                        u8 t.line.parked.length] ++ t.line.parked.flatMap bytes4 }]) ∧
        (∀ x k, f = .name x (k + 1) → k < 12 → t.line.foreign = s.line.foreign ∧ t.line.parked = s.line.parked ∧
          (isBound s k = true → t.line.nodes = s.line.nodes ∧ t.chans = s.chans) ∧
          (∀ c, isBound s k = false → s.chans[k]? = some c → c.faults = .empty →
            t.line.nodes = s.line.nodes.set k { serial := some x, miss := 0 } ∧
            t.chans = s.chans.set k
              { c with state := .centred, theta := 0, step := 0, trackCount := 0, angle := none, cond := none })) ∧
        (∀ x a, f = .name x a → 13 ≤ a → a ≤ 15 →
          t.line.nodes = s.line.nodes ∧ t.chans = s.chans ∧ t.line.parked = s.line.parked ∧
          t.line.foreign.get a = some x ∧ ∀ b, b ≠ a → t.line.foreign.get b = s.line.foreign.get b) ∧
        (∀ x, f = .park x →
          t.line.nodes = s.line.nodes ∧ t.chans = s.chans ∧ t.line.foreign = s.line.foreign ∧
          t.line.parked = if s.line.parked.length < 24 then s.line.parked ++ [x] else s.line.parked)) ∧
    boundCount s + missingCount s = tiltingCount s ∧
    (∀ c, (c = .claimRound .noClaim ∧ s.line.exch = .round) ∨ c = .musterEnd ∨
        (c = .claimRound .garbled ∧ s.line.exch = .round ∧ 24 ≤ m.round) →
      ∃ t, exec c s = .next (chooseIfIdle t) ∧
        t = { s with
              ctl := { s.ctl with centreOk := centreConditions t }
              line := { s.line with state := .cycling, exch := .quiet, muster := none }
              link := { s.link with
                completions := s.link.completions ++
                  [{ kind := 0xB0#8, tag := m.tag,
                     body := [0, 0, 0, 0, u8 (boundCount s), u8 (missingCount s), u8 s.line.foreign.count,
                              u8 s.line.parked.length] ++ s.line.parked.flatMap bytes4 }]
                notices := if c = .claimRound .garbled then s.link.notices.raise .line 8#16
                  else s.link.notices } })

/-- The CALL window: no call and a garbled key end the cycle; a join is named at its car, or its foreign entry is
removed and it is named at the highest foreign address that then holds nothing, or parked; a join of a bound car ends
the old binding with NODE_RESTART; a delivered NAME binds and raises JOINED, or makes a foreign entry and raises
FOREIGN, and a delivered PARK parks and raises FOREIGN; a good ALRT is taken, left or taken without being kept,
silence or a bad ALRT ends the cycle, and a delivered TAKE keeps the alert and fails the car for a severe kind; a car
that fails returns the FOLLOWING cars under WHOLE (R123, R127, R134, R135, R157, R158, R159, R160, R161). -/
def Obligations.CallWindowsTakeAlertsAndJoins : Prop :=
  ∀ (s : State), Running s →
    (s.line.exch = .window →
      (∀ key, key = .noCall ∨ key = .garbled →
        exec (.contentionKey key) s = .next { s with line := { s.line with exch := .quiet } }) ∧
      (∀ a, exec (.contentionKey (.alert a)) s = .next { s with line := { s.line with exch := .alrt a } }) ∧
      (∀ x k, ownSerial s k = some x → (∀ j, ownSerial s j = some x → j = k) → isBound s k = false →
        exec (.contentionKey (.join x)) s =
          .next { s with line := { s.line with exch := .echo (.name x (k + 1)) } }) ∧
      (∀ x k d, ownSerial s k = some x → (∀ j, ownSerial s j = some x → j = k) → isBound s k = true →
        s.chans[k]? = some d →
        ∃ t, exec (.contentionKey (.join x)) s = .next (chooseIfIdle t) ∧
          t.line.exch = .echo (.name x (k + 1)) ∧
          t.line.nodes = s.line.nodes.set k { serial := none, miss := 0 } ∧ t.line.foreign = s.line.foreign ∧
          AddsFault .nodeRestart k d s t) ∧
      (∀ x (f : Foreign), (∀ k, ownSerial s k ≠ some x) →
        (∀ b, f.get b = if s.line.foreign.get b = some x then none else s.line.foreign.get b) →
        (∀ a, 13 ≤ a → a ≤ 15 → f.get a = none → (∀ b, a < b → b ≤ 15 → f.get b ≠ none) →
          exec (.contentionKey (.join x)) s = .next
            { s with line := { s.line with foreign := f, exch := .echo (.name x a) } }) ∧
        ((∀ a, 13 ≤ a → a ≤ 15 → f.get a ≠ none) →
          exec (.contentionKey (.join x)) s = .next
            { s with line := { s.line with foreign := f, exch := .echo (.park x) } }))) ∧
    (∀ x k c, s.line.state = .cycling → s.line.exch = .echo (.name x (k + 1)) → k < 12 → s.chans[k]? = some c →
      k < s.line.nodes.length →
      ∃ t, exec (.frameEcho true) s = .next (chooseIfIdle t) ∧ t.line.exch = .quiet ∧
        t.line.nodes = s.line.nodes.set k { serial := some x, miss := 0 } ∧
        t.chans = s.chans.set k
          { c with state := if c.faults = .empty then .centred else .failed, theta := 0, step := 0,
                   trackCount := 0, angle := none, cond := none } ∧
        t.link.notices.line = { pending := true, flags := s.link.notices.line.flags ||| 2#16 }) ∧
    (∀ x a, s.line.state = .cycling → s.line.exch = .echo (.name x a) → 13 ≤ a → a ≤ 15 →
      ∃ t, exec (.frameEcho true) s = .next (chooseIfIdle t) ∧ t.line.exch = .quiet ∧ t.line.nodes = s.line.nodes ∧
        t.chans = s.chans ∧ t.line.parked = s.line.parked ∧ t.line.foreign.get a = some x ∧
        (∀ b, b ≠ a → t.line.foreign.get b = s.line.foreign.get b) ∧
        t.link.notices.line = { pending := true, flags := s.link.notices.line.flags ||| 4#16 }) ∧
    (∀ x, s.line.state = .cycling → s.line.exch = .echo (.park x) → exec (.frameEcho true) s = .next (chooseIfIdle
      (({ s with line := { s.line with
            exch := .quiet, echoCount := 0,
            parked := if s.line.parked.length < 24 then s.line.parked ++ [x] else s.line.parked } }).raise
        .line 4#16))) ∧
    (∀ a b c angle cond flags acc ok v kind detail, s.line.exch = .alrt a → c = .replySilence ∨
        c = .stat b angle cond flags acc ∨ c = .mrsp b ok v ∨ (c = .alrt b kind detail ∧ b ≠ a) →
      exec c s = .next { s with line := { s.line with exch := .quiet } }) ∧
    (∀ a kind detail, s.line.exch = .alrt a →
      (1 ≤ a ∧ a ≤ 12 → isBound s (a - 1) = true →
        (s.line.alerts.length < 8 → exec (.alrt a kind detail) s = .next
          { s with line := { s.line with exch := .takeEcho a (some (kind, detail)) } }) ∧
        (8 ≤ s.line.alerts.length → exec (.alrt a kind detail) s = .next
          { s with line := { s.line with exch := .echo (.leave a) } })) ∧
      (¬(1 ≤ a ∧ a ≤ 12) ∨ isBound s (a - 1) = false → exec (.alrt a kind detail) s = .next
        { s with line := { s.line with exch := .takeEcho a none } })) ∧
    (∀ a kind detail, s.line.exch = .takeEcho a (some (kind, detail)) →
      ∃ t, exec (.frameEcho true) s = .next (chooseIfIdle t) ∧ t.line.exch = .quiet ∧
      t.line.alerts = s.line.alerts ++
        [{ car := a - 1, kind := kind, detail := detail, position := s.odo.pos }] ∧
      (t.link.notices.alerts.pending = true ↔
        s.link.notices.alerts.pending = true ∨ s.line.alerts = []) ∧
      (kind = .pressure ∨ kind = .supply ∨ kind = .note → t.chans = s.chans) ∧
      (∀ d, kind = .actuator ∨ kind = .overtravel ∨ kind = .sensor → s.chans[a - 1]? = some d →
        AddsFault .alert (a - 1) d s t))

/-! ## The receiver and the transmitter -/

/-- The receiver: nothing is decoded while it waits for the idle level; a character joins the FIFO with its marks or
is lost and leaves an overrun pending; a break makes it wait again; the gap timer marks the newest character, or
reaches the assembler at once, and discards a frame in progress as broken (R170, R171, R172, R173, R175; a break told
by its bits: log entry 9). -/
def Obligations.CharactersAndGapsEnterTheFifo : Prop :=
  ∀ (s : State), Running s →
    (exec .rxdIdleLevel s = .next { s with link := { s.link with waitIdle := false } }) ∧
    (∀ d p e, s.link.waitIdle = true → exec (.characterReceived d p e) s = .next s) ∧
    (∀ d p e, s.link.waitIdle = false → s.link.fifo.length < 64 → exec (.characterReceived d p e) s = .next
      { s with link := { s.link with
          fifo := s.link.fifo ++
            [RxChar.mk d (decide (((List.range 8).countP (fun i => d.getLsbD i) + (if p then 1 else 0)) % 2 = 1))
              (!e) s.link.overrun false]
          overrun := false, gapRunning := true,
          waitIdle := decide (d = 0#8 ∧ p = false ∧ e = false) } }) ∧
    (∀ d p e, s.link.waitIdle = false → 64 ≤ s.link.fifo.length → exec (.characterReceived d p e) s = .next
      { s with link := { s.link with
          overrun := true, gapRunning := true, waitIdle := decide (d = 0#8 ∧ p = false ∧ e = false) } }) ∧
    (s.link.gapRunning = false ∨ s.link.waitIdle = true → exec .gap s = .next s) ∧
    (s.link.gapRunning = true → s.link.waitIdle = false →
      (∀ l c, s.link.fifo = l ++ [c] → exec .gap s = .next
        { s with link := { s.link with gapRunning := false, fifo := l ++ [{ c with gap := true }] } }) ∧
      (s.link.fifo = [] → s.link.asm = .hunt → exec .gap s = .next
        { s with link := { s.link with gapRunning := false } }) ∧
      (s.link.fifo = [] → s.link.asm ≠ .hunt → exec .gap s = .next
        { s with link := { s.link with
            gapRunning := false, asm := .hunt, broken := countUp s.link.broken 65535 } }))

/-- The assembler takes the head of the FIFO by its state, and the end of a frame as a command takes only its last
character: a spoiled frame or a CRC that differs is counted bad, any other frame is good and is accepted. A character
that carries the gap mark is taken first, and the gap then discards a frame in progress as broken (R172, R173, R174,
R175; the end of a frame as a command: log entry 4). -/
def Obligations.TheAssemblerTakesCharacters : Prop :=
  ∀ (s : State), Running s →
    (s.link.fifo = [] → exec .characterTaken s = .next s ∧ exec .frameEnd s = .next s) ∧
    (∀ c rest, s.link.fifo = c :: rest → c.gap = true →
      (s.link.asm = .hunt → c.data ≠ 0xC5#8 ∨ c.isMarked = true → exec .characterTaken s = .next
        { s with link := { s.link with fifo := rest } }) ∧
      (s.link.asm = .length → ¬(2 ≤ c.data.toNat ∧ c.data.toNat ≤ 250 ∧ c.isMarked = false) →
        exec .characterTaken s = .next
          { s with link := { s.link with
              fifo := rest, asm := .hunt, bad := countUp s.link.bad 65535 } }) ∧
      ((s.link.asm = .hunt ∧ c.data = 0xC5#8 ∧ c.isMarked = false) ∨
        (s.link.asm = .length ∧ 2 ≤ c.data.toNat ∧ c.data.toNat ≤ 250 ∧ c.isMarked = false) ∨
        (∃ buffer left spoiled, s.link.asm = .collect buffer left spoiled ∧ 2 ≤ left) →
        exec .characterTaken s = .next
          { s with link := { s.link with
              fifo := rest, asm := .hunt, broken := countUp s.link.broken 65535 } }) ∧
      (∀ buffer spoiled, s.link.asm = .collect buffer 1 spoiled →
        exec .characterTaken s =
          exec .characterTaken { s with link := { s.link with fifo := { c with gap := false } :: rest } })) ∧
    (∀ c rest, s.link.fifo = c :: rest → c.gap = false →
      (s.link.asm = .hunt → exec .characterTaken s = .next
        { s with link := { s.link with
            fifo := rest, asm := if c.data = 0xC5#8 ∧ c.isMarked = false then .length else .hunt } }) ∧
      (s.link.asm = .length → 2 ≤ c.data.toNat → c.data.toNat ≤ 250 → c.isMarked = false →
        exec .characterTaken s = .next
          { s with link := { s.link with fifo := rest, asm := .collect [c.data] (c.data.toNat + 2) false } }) ∧
      (s.link.asm = .length → ¬(2 ≤ c.data.toNat ∧ c.data.toNat ≤ 250 ∧ c.isMarked = false) →
        exec .characterTaken s = .next
          { s with link := { s.link with
              fifo := rest, asm := .hunt, bad := countUp s.link.bad 65535 } }) ∧
      (∀ buffer left spoiled, s.link.asm = .collect buffer left spoiled → 2 ≤ left →
        exec .characterTaken s = .next
          { s with link := { s.link with
              fifo := rest,
              asm := .collect (buffer ++ [c.data]) (left - 1) (spoiled || c.isMarked) } } ∧
        exec .frameEnd s = .next s) ∧
      (∀ buffer spoiled e, s.link.asm = .collect buffer 1 spoiled → e = .characterTaken ∨ e = .frameEnd →
        ((spoiled || c.isMarked) = true → exec e s = .next
          { s with link := { s.link with
              fifo := rest, asm := .hunt, bad := countUp s.link.bad 65535 } }) ∧
        (∀ f : Frame, f.body.length ≤ 248 → (spoiled || c.isMarked) = false →
          buffer ++ [c.data] = coveredBytes f ++ bytes2 (crc16 (coveredBytes f)) →
          exec e s = .next (chooseIfIdle
            (acceptFrame f { s with link := { s.link with fifo := rest, asm := .hunt } }))) ∧
        (∀ covered crc, (spoiled || c.isMarked) = false → buffer ++ [c.data] = covered ++ crc → crc.length = 2 →
          crc ≠ bytes2 (crc16 covered) → exec e s = .next
            { s with link := { s.link with
                fifo := rest, asm := .hunt, bad := countUp s.link.bad 65535 } })))

/-- The transmitter: it sends a frame's bytes as characters of eleven bits. A frame being sent goes on to its end; at
its end, and while it is idle whenever something waits, it takes the reply, then the oldest completion, then the
pending notice of highest priority, which is composed and cleared; the request that waited for the reply slot is
handed over. An accepted Reset places its reply, holds later requests back, and takes effect when its reply has been
sent. After any reset the first frame sent is the MODE notice with RESET, whatever event comes first (R36, R136, R170,
R176, R177, R180, R181, R182, R185). That an idle transmitter chooses at the end of the whole event is the model's
reading (log entry 3). -/
def Obligations.TheTransmitterChoosesAndResetTakesEffect : Prop :=
  (∀ b : Byte, (charBits b).getLsbD 0 = false ∧ (∀ i, i < 8 → (charBits b).getLsbD (i + 1) = b.getLsbD i) ∧
    (charBits b).getLsbD 10 = true ∧
    (List.range 9).countP (fun i => (charBits b).getLsbD (i + 1)) % 2 = 0) ∧
  (∀ (p : List Instr) (pins : Pins) (c : Instr),
    (chooseIfIdle (State.afterReset p pins)).link.sending =
      some ((frameBytes { kind := 0x60#8, tag := 0#8, body := [1, 0, 0, 1, 1, 0] }).map charBits) ∧
    ((∀ q, c ≠ .resetN q) → c ≠ .resetNAsserted → (∀ q, c ≠ .frameSent q) →
      exec c (State.afterReset p pins) = exec c (chooseIfIdle (State.afterReset p pins)))) ∧
  (∀ (s : State) (pins : Pins), s.inReset = false →
    (s.link.sending ≠ none → chooseIfIdle s = s) ∧
    (∀ tag, LinkFree s → exec (.reset tag) s = .next (chooseIfIdle
      { s with link := { s.link with
          resetWaiting := true, reply := some { kind := 0x8A#8, tag := tag, body := [0, 0, 0, 0] } } })) ∧
    (s.link.resetWaiting = true → s.link.reply = none → s.link.sending ≠ none →
      exec (.frameSent pins) s = .next (State.afterReset s.pending pins)) ∧
    (s.link.resetWaiting = false ∨ s.link.reply ≠ none ∨ s.link.sending = none →
      exec (.frameSent pins) s = .next (chooseIfIdle { s with link := { s.link with sending := none } }))) ∧
  (∀ (s : State), s.link.sending = none →
    (∀ f, s.link.resetWaiting = true → s.link.reply = some f → chooseIfIdle s =
      { s with link := { s.link with reply := none, sending := some ((frameBytes f).map charBits) } }) ∧
    (∀ f, s.link.reply = some f → s.link.slot = none → chooseIfIdle s =
      { s with link := { s.link with reply := none, sending := some ((frameBytes f).map charBits) } }) ∧
    (∀ f g, s.link.resetWaiting = false → s.link.reply = some f → s.link.slot = some g → chooseIfIdle s =
      handleFrame g
        { s with link := { s.link with
            reply := none, slot := none, sending := some ((frameBytes f).map charBits) } }) ∧
    (∀ f rest, s.link.reply = none → s.link.completions = f :: rest → chooseIfIdle s =
      { s with link := { s.link with completions := rest, sending := some ((frameBytes f).map charBits) } }) ∧
    (s.link.reply = none → s.link.completions = [] →
      (∀ k, (s.link.notices.get k).pending = true →
        (∀ j, (noticeCode j).toNat < (noticeCode k).toNat → (s.link.notices.get j).pending = false) →
        chooseIfIdle s =
          { s with
            link := { s.link with
              notices := s.link.notices.set k { pending := false, flags := 0#16 }
              sending := some ((frameBytes
                { kind := noticeCode k, tag := 0#8,
                  body := bytes2 (s.link.notices.get k).flags ++ noticeContent s k }).map charBits) }
            chans := if k = .cars then s.chans.map (fun c => { c with unreported := false }) else s.chans }) ∧
      ((∀ k, (s.link.notices.get k).pending = false) → chooseIfIdle s = s)))

/-- The bodies of the seven notices after their event flags, read back field by field: MODE the state of the mode
controller, CARS one entry per car with an unreported fault, LINE the counts of the line, POSITION the odometer and
its captures, GEOMETRY the extent of the route, ALERTS the records waiting, TELEMETRY one entry per car (R136, R140,
R167, R182, R187, R191). -/
def Obligations.NoticesCarryTheirState : Prop :=
  ∀ (s : State) (body : NoticeKind → List Byte),
    (∀ k, body k = bytes2 (s.link.notices.get k).flags ++ noticeContent s k) →
    FormationLaw s → TableLaw s → OdometerLaw s → CaptureLaw s → GeometryLaw s → LineLaw s →
    (∀ k, natAt 2 0 (body k) = (s.link.notices.get k).flags.toNat) ∧
    ((body .mode).length = 6 ∧ natAt 1 2 (body .mode) = (modeCode s.ctl.mode).toNat ∧
      (natAt 1 3 (body .mode) = 1 ↔ s.ctl.inhibit = true) ∧ (natAt 1 4 (body .mode) = 1 ↔ s.ctl.latch = true) ∧
      natAt 1 5 (body .mode) = (causeCode s.ctl.cause).toNat) ∧
    (∀ listed, listed = (List.range s.chans.length).filter
        (fun k => ((s.chans[k]?).map Channel.unreported).getD false) →
      (body .cars).length = 4 + 4 * listed.length ∧ natAt 1 2 (body .cars) = listed.length ∧
      (∀ i k c, listed[i]? = some k → s.chans[k]? = some c →
        natAt 1 (4 + 4 * i) (body .cars) = k ∧
        natAt 1 (5 + 4 * i) (body .cars) = (chanStateCode c.state).toNat ∧
        natAt 1 (6 + 4 * i) (body .cars) = (faultSetByte c.faults).toNat ∧
        natAt 1 (7 + 4 * i) (body .cars) = (faultCode c.firstFault).toNat)) ∧
    ((body .line).length = 10 ∧ natAt 1 2 (body .line) = (lineStateCode s.line.state).toNat ∧
      natAt 1 3 (body .line) = (List.range s.cars.length).countP (fun k => isTilting s k && isBound s k) ∧
      natAt 1 4 (body .line) = (List.range s.cars.length).countP (fun k => isTilting s k && !isBound s k) ∧
      natAt 1 5 (body .line) = [13, 14, 15].countP (fun a => (s.line.foreign.get a).isSome) ∧
      natAt 1 6 (body .line) = s.line.parked.length ∧ natAt 2 8 (body .line) = s.line.echoTotal) ∧
    ((body .position).length = 14 + 8 * s.odo.captures.length ∧ intAt 4 2 (body .position) = s.odo.pos ∧
      natAt 4 6 (body .position) = s.odo.uCm ∧ (natAt 1 10 (body .position) = 1 ↔ s.odo.trust = true) ∧
      (natAt 1 11 (body .position) = 1 ↔ s.odo.tachoA.failed = true) ∧
      (natAt 1 12 (body .position) = 1 ↔ s.odo.tachoB.failed = true) ∧
      natAt 1 13 (body .position) = s.odo.captures.length ∧
      (∀ i c, s.odo.captures[i]? = some c →
        natAt 2 (14 + 8 * i) (body .position) = c.number ∧
        natAt 2 (16 + 8 * i) (body .position) = min c.speed 65535 ∧
        intAt 4 (18 + 8 * i) (body .position) = saturatePos c.position)) ∧
    ((body .geometry).length = 14 ∧ (natAt 1 2 (body .geometry) = 1 ↔ s.geo.committed ≠ []) ∧
      natAt 2 4 (body .geometry) = 256 - s.geo.committed.length ∧
      intAt 4 6 (body .geometry) =
        saturatePos ((s.geo.committed.getLast?.map (fun g => g.start + g.length)).getD 0) ∧
      intAt 4 10 (body .geometry) =
        saturatePos ((s.geo.committed.getLast?.map (fun g => g.start + g.length - s.odo.pos)).getD 0)) ∧
    ((body .alerts).length = 6 ∧ natAt 1 2 (body .alerts) = s.line.alerts.length) ∧
    ((body .telemetry).length = 4 + 10 * s.cars.length ∧ natAt 1 2 (body .telemetry) = s.cars.length ∧
      (∀ k c r, s.chans[k]? = some c → s.plan.records[k]? = some r →
        intAt 2 (4 + 10 * k) (body .telemetry) = clamp c.theta (-32768) 32767 ∧
        intAt 2 (6 + 10 * k) (body .telemetry) = clamp r.target (-32768) 32767 ∧
        intAt 2 (8 + 10 * k) (body .telemetry) = clamp (c.angle.getD 0) (-32768) 32767 ∧
        natAt 1 (10 + 10 * k) (body .telemetry) = (chanStateCode c.state).toNat ∧
        natAt 1 (11 + 10 * k) (body .telemetry) = (sourceCode r.source).toNat ∧
        (natAt 1 (12 + 10 * k) (body .telemetry) = 1 ↔ c.angle ≠ none)))
end

