-- ==== Sys2Proof/Laws/Arith.lean ====
section
/-! SUPPORT. What the arithmetic words of the manual answer, and that fields of messages read back as they were
written. -/

namespace Sys2Proof.Machine

open Sys2Proof

/-! ## clamp, rounded, saturating -/

theorem clamp_mem {x lo hi : Int} (h : lo ≤ hi) : lo ≤ clamp x lo hi ∧ clamp x lo hi ≤ hi := by
  unfold clamp; split
  · omega
  · split <;> omega

theorem clamp_of_mem {x lo hi : Int} (h1 : lo ≤ x) (h2 : x ≤ hi) : clamp x lo hi = x := by
  unfold clamp; split
  · omega
  · split <;> omega

theorem clampAbs_natAbs_le (x : Int) (m : Nat) : (clampAbs x m).natAbs ≤ m := by
  have := clamp_mem (x := x) (lo := -(m : Int)) (hi := m) (by omega)
  unfold clampAbs; omega

theorem clampAbs_of_le {x : Int} {m : Nat} (h : x.natAbs ≤ m) : clampAbs x m = x :=
  clamp_of_mem (by omega) (by omega)

/-- Rounding answers the nearest integer: twice the error is at most the divisor. -/
theorem rounded_near (n d : Int) (h : 0 < d) :
    2 * (rounded n d * d) - 2 * n ≤ d ∧ 2 * n - 2 * (rounded n d * d) ≤ d := by
  have h1 := Int.emod_add_mul_ediv (2 * n + d) (2 * d)
  have h2 := Int.emod_nonneg (2 * n + d) (by omega : 2 * d ≠ 0)
  have h3 := Int.emod_lt_of_pos (2 * n + d) (by omega : 0 < 2 * d)
  have h4 := Int.emod_add_mul_ediv (2 * (-n) + d) (2 * d)
  have h5 := Int.emod_nonneg (2 * (-n) + d) (by omega : 2 * d ≠ 0)
  have h6 := Int.emod_lt_of_pos (2 * (-n) + d) (by omega : 0 < 2 * d)
  unfold rounded
  split <;> constructor <;> nlinarith

theorem saturatePos_mem (x : Int) : Config.posMin ≤ saturatePos x ∧ saturatePos x ≤ Config.posMax :=
  clamp_mem (by decide)

theorem saturatePos_of_mem {x : Int} (h1 : Config.posMin ≤ x) (h2 : x ≤ Config.posMax) : saturatePos x = x :=
  clamp_of_mem h1 h2

theorem countUp_le {n top : Nat} (h : n ≤ top) : countUp n top ≤ top := by
  unfold countUp; split <;> omega

/-! ## Fields (R187) -/

@[simp] theorem bytes2_length (x : Half) : (bytes2 x).length = 2 := rfl
@[simp] theorem bytes4_length (x : Word) : (bytes4 x).length = 4 := rfl
@[simp] theorem u16_length (n : Nat) : (u16 n).length = 2 := rfl
@[simp] theorem u32_length (n : Nat) : (u32 n).length = 4 := rfl
@[simp] theorem i16_length (x : Int) : (i16 x).length = 2 := rfl
@[simp] theorem i32_length (x : Int) : (i32 x).length = 4 := rfl
@[simp] theorem reserved_length (n : Nat) : (reserved n).length = n := by simp [reserved]
@[simp] theorem header_length (r : ResultCode) (d : Detail) (arg : Nat) : (header r d arg).length = 4 := rfl

/-- The high part of a word next to its low part is the word. -/
theorem append_parts {m n : Nat} (x : BitVec (m + n)) : x.extractLsb' n m ++ x.extractLsb' 0 n = x := by
  apply BitVec.eq_of_getLsbD_eq
  intro i hi
  simp

/-- A part of a part of a word is a part of the word. -/
theorem part_of_part {w : Nat} (x : BitVec w) (a b i j : Nat) (h : j + b ≤ a) :
    (x.extractLsb' i a).extractLsb' j b = x.extractLsb' (i + j) b := by
  apply BitVec.eq_of_getLsbD_eq
  intro k hk
  simp [hk, show j + k < a by omega, Nat.add_assoc]

/-- A two-byte field reads back as it was written. -/
theorem half_bytes2 (x : Half) : half (x.extractLsb' 0 8) (x.extractLsb' 8 8) = x :=
  append_parts (m := 8) (n := 8) x

/-- A four-byte field reads back as it was written. -/
theorem word_bytes4 (x : Word) :
    word (x.extractLsb' 0 8) (x.extractLsb' 8 8) (x.extractLsb' 16 8) (x.extractLsb' 24 8) = x := by
  have high := append_parts (m := 8) (n := 8) (x.extractLsb' 16 16)
  have low := append_parts (m := 8) (n := 8) (x.extractLsb' 0 16)
  rw [part_of_part x 16 8 16 8 (by omega), part_of_part x 16 8 16 0 (by omega)] at high
  rw [part_of_part x 16 8 0 8 (by omega), part_of_part x 16 8 0 0 (by omega)] at low
  have whole := append_parts (m := 16) (n := 16) x
  rw [← high, ← low] at whole
  exact whole

end Sys2Proof.Machine
end

