-- ==== Sys2Proof/Laws/State.lean ====
section
/-! SUPPORT. What each update of one block leaves in each field of the state, and that two updates of one block
are the second, so that no later proof unfolds a record update. -/

namespace Sys2Proof.Machine

open Sys2Proof

/-! ## State.setCtl -/

@[simp] theorem State.setCtl_pending (s : State) (x : ModeCtl) : (s.setCtl x).pending = s.pending := rfl
@[simp] theorem State.setCtl_inReset (s : State) (x : ModeCtl) : (s.setCtl x).inReset = s.inReset := rfl
@[simp] theorem State.setCtl_ctl (s : State) (x : ModeCtl) : (s.setCtl x).ctl = x := rfl
@[simp] theorem State.setCtl_cars (s : State) (x : ModeCtl) : (s.setCtl x).cars = s.cars := rfl
@[simp] theorem State.setCtl_params (s : State) (x : ModeCtl) : (s.setCtl x).params = s.params := rfl
@[simp] theorem State.setCtl_odo (s : State) (x : ModeCtl) : (s.setCtl x).odo = s.odo := rfl
@[simp] theorem State.setCtl_geo (s : State) (x : ModeCtl) : (s.setCtl x).geo = s.geo := rfl
@[simp] theorem State.setCtl_ring (s : State) (x : ModeCtl) : (s.setCtl x).ring = s.ring := rfl
@[simp] theorem State.setCtl_plan (s : State) (x : ModeCtl) : (s.setCtl x).plan = s.plan := rfl
@[simp] theorem State.setCtl_chans (s : State) (x : ModeCtl) : (s.setCtl x).chans = s.chans := rfl
@[simp] theorem State.setCtl_line (s : State) (x : ModeCtl) : (s.setCtl x).line = s.line := rfl
@[simp] theorem State.setCtl_link (s : State) (x : ModeCtl) : (s.setCtl x).link = s.link := rfl
@[simp] theorem State.setCtl_again (s : State) (x y : ModeCtl) : (s.setCtl x).setCtl y = s.setCtl y := rfl
theorem State.setCtl_same (s : State) : s.setCtl s.ctl = s := rfl

/-! ## State.setCars -/

@[simp] theorem State.setCars_pending (s : State) (x : List Car) : (s.setCars x).pending = s.pending := rfl
@[simp] theorem State.setCars_inReset (s : State) (x : List Car) : (s.setCars x).inReset = s.inReset := rfl
@[simp] theorem State.setCars_ctl (s : State) (x : List Car) : (s.setCars x).ctl = s.ctl := rfl
@[simp] theorem State.setCars_cars (s : State) (x : List Car) : (s.setCars x).cars = x := rfl
@[simp] theorem State.setCars_params (s : State) (x : List Car) : (s.setCars x).params = s.params := rfl
@[simp] theorem State.setCars_odo (s : State) (x : List Car) : (s.setCars x).odo = s.odo := rfl
@[simp] theorem State.setCars_geo (s : State) (x : List Car) : (s.setCars x).geo = s.geo := rfl
@[simp] theorem State.setCars_ring (s : State) (x : List Car) : (s.setCars x).ring = s.ring := rfl
@[simp] theorem State.setCars_plan (s : State) (x : List Car) : (s.setCars x).plan = s.plan := rfl
@[simp] theorem State.setCars_chans (s : State) (x : List Car) : (s.setCars x).chans = s.chans := rfl
@[simp] theorem State.setCars_line (s : State) (x : List Car) : (s.setCars x).line = s.line := rfl
@[simp] theorem State.setCars_link (s : State) (x : List Car) : (s.setCars x).link = s.link := rfl
@[simp] theorem State.setCars_again (s : State) (x y : List Car) : (s.setCars x).setCars y = s.setCars y := rfl
theorem State.setCars_same (s : State) : s.setCars s.cars = s := rfl

/-! ## State.setParams -/

@[simp] theorem State.setParams_pending (s : State) (x : Params) : (s.setParams x).pending = s.pending := rfl
@[simp] theorem State.setParams_inReset (s : State) (x : Params) : (s.setParams x).inReset = s.inReset := rfl
@[simp] theorem State.setParams_ctl (s : State) (x : Params) : (s.setParams x).ctl = s.ctl := rfl
@[simp] theorem State.setParams_cars (s : State) (x : Params) : (s.setParams x).cars = s.cars := rfl
@[simp] theorem State.setParams_params (s : State) (x : Params) : (s.setParams x).params = x := rfl
@[simp] theorem State.setParams_odo (s : State) (x : Params) : (s.setParams x).odo = s.odo := rfl
@[simp] theorem State.setParams_geo (s : State) (x : Params) : (s.setParams x).geo = s.geo := rfl
@[simp] theorem State.setParams_ring (s : State) (x : Params) : (s.setParams x).ring = s.ring := rfl
@[simp] theorem State.setParams_plan (s : State) (x : Params) : (s.setParams x).plan = s.plan := rfl
@[simp] theorem State.setParams_chans (s : State) (x : Params) : (s.setParams x).chans = s.chans := rfl
@[simp] theorem State.setParams_line (s : State) (x : Params) : (s.setParams x).line = s.line := rfl
@[simp] theorem State.setParams_link (s : State) (x : Params) : (s.setParams x).link = s.link := rfl
@[simp] theorem State.setParams_again (s : State) (x y : Params) : (s.setParams x).setParams y = s.setParams y := rfl
theorem State.setParams_same (s : State) : s.setParams s.params = s := rfl

/-! ## State.setOdo -/

@[simp] theorem State.setOdo_pending (s : State) (x : Odometer) : (s.setOdo x).pending = s.pending := rfl
@[simp] theorem State.setOdo_inReset (s : State) (x : Odometer) : (s.setOdo x).inReset = s.inReset := rfl
@[simp] theorem State.setOdo_ctl (s : State) (x : Odometer) : (s.setOdo x).ctl = s.ctl := rfl
@[simp] theorem State.setOdo_cars (s : State) (x : Odometer) : (s.setOdo x).cars = s.cars := rfl
@[simp] theorem State.setOdo_params (s : State) (x : Odometer) : (s.setOdo x).params = s.params := rfl
@[simp] theorem State.setOdo_odo (s : State) (x : Odometer) : (s.setOdo x).odo = x := rfl
@[simp] theorem State.setOdo_geo (s : State) (x : Odometer) : (s.setOdo x).geo = s.geo := rfl
@[simp] theorem State.setOdo_ring (s : State) (x : Odometer) : (s.setOdo x).ring = s.ring := rfl
@[simp] theorem State.setOdo_plan (s : State) (x : Odometer) : (s.setOdo x).plan = s.plan := rfl
@[simp] theorem State.setOdo_chans (s : State) (x : Odometer) : (s.setOdo x).chans = s.chans := rfl
@[simp] theorem State.setOdo_line (s : State) (x : Odometer) : (s.setOdo x).line = s.line := rfl
@[simp] theorem State.setOdo_link (s : State) (x : Odometer) : (s.setOdo x).link = s.link := rfl
@[simp] theorem State.setOdo_again (s : State) (x y : Odometer) : (s.setOdo x).setOdo y = s.setOdo y := rfl
theorem State.setOdo_same (s : State) : s.setOdo s.odo = s := rfl

/-! ## State.setGeo -/

@[simp] theorem State.setGeo_pending (s : State) (x : GeoStore) : (s.setGeo x).pending = s.pending := rfl
@[simp] theorem State.setGeo_inReset (s : State) (x : GeoStore) : (s.setGeo x).inReset = s.inReset := rfl
@[simp] theorem State.setGeo_ctl (s : State) (x : GeoStore) : (s.setGeo x).ctl = s.ctl := rfl
@[simp] theorem State.setGeo_cars (s : State) (x : GeoStore) : (s.setGeo x).cars = s.cars := rfl
@[simp] theorem State.setGeo_params (s : State) (x : GeoStore) : (s.setGeo x).params = s.params := rfl
@[simp] theorem State.setGeo_odo (s : State) (x : GeoStore) : (s.setGeo x).odo = s.odo := rfl
@[simp] theorem State.setGeo_geo (s : State) (x : GeoStore) : (s.setGeo x).geo = x := rfl
@[simp] theorem State.setGeo_ring (s : State) (x : GeoStore) : (s.setGeo x).ring = s.ring := rfl
@[simp] theorem State.setGeo_plan (s : State) (x : GeoStore) : (s.setGeo x).plan = s.plan := rfl
@[simp] theorem State.setGeo_chans (s : State) (x : GeoStore) : (s.setGeo x).chans = s.chans := rfl
@[simp] theorem State.setGeo_line (s : State) (x : GeoStore) : (s.setGeo x).line = s.line := rfl
@[simp] theorem State.setGeo_link (s : State) (x : GeoStore) : (s.setGeo x).link = s.link := rfl
@[simp] theorem State.setGeo_again (s : State) (x y : GeoStore) : (s.setGeo x).setGeo y = s.setGeo y := rfl
theorem State.setGeo_same (s : State) : s.setGeo s.geo = s := rfl

/-! ## State.setRing -/

@[simp] theorem State.setRing_pending (s : State) (x : List Sample) : (s.setRing x).pending = s.pending := rfl
@[simp] theorem State.setRing_inReset (s : State) (x : List Sample) : (s.setRing x).inReset = s.inReset := rfl
@[simp] theorem State.setRing_ctl (s : State) (x : List Sample) : (s.setRing x).ctl = s.ctl := rfl
@[simp] theorem State.setRing_cars (s : State) (x : List Sample) : (s.setRing x).cars = s.cars := rfl
@[simp] theorem State.setRing_params (s : State) (x : List Sample) : (s.setRing x).params = s.params := rfl
@[simp] theorem State.setRing_odo (s : State) (x : List Sample) : (s.setRing x).odo = s.odo := rfl
@[simp] theorem State.setRing_geo (s : State) (x : List Sample) : (s.setRing x).geo = s.geo := rfl
@[simp] theorem State.setRing_ring (s : State) (x : List Sample) : (s.setRing x).ring = x := rfl
@[simp] theorem State.setRing_plan (s : State) (x : List Sample) : (s.setRing x).plan = s.plan := rfl
@[simp] theorem State.setRing_chans (s : State) (x : List Sample) : (s.setRing x).chans = s.chans := rfl
@[simp] theorem State.setRing_line (s : State) (x : List Sample) : (s.setRing x).line = s.line := rfl
@[simp] theorem State.setRing_link (s : State) (x : List Sample) : (s.setRing x).link = s.link := rfl
@[simp] theorem State.setRing_again (s : State) (x y : List Sample) : (s.setRing x).setRing y = s.setRing y := rfl
theorem State.setRing_same (s : State) : s.setRing s.ring = s := rfl

/-! ## State.setPlan -/

@[simp] theorem State.setPlan_pending (s : State) (x : Planner) : (s.setPlan x).pending = s.pending := rfl
@[simp] theorem State.setPlan_inReset (s : State) (x : Planner) : (s.setPlan x).inReset = s.inReset := rfl
@[simp] theorem State.setPlan_ctl (s : State) (x : Planner) : (s.setPlan x).ctl = s.ctl := rfl
@[simp] theorem State.setPlan_cars (s : State) (x : Planner) : (s.setPlan x).cars = s.cars := rfl
@[simp] theorem State.setPlan_params (s : State) (x : Planner) : (s.setPlan x).params = s.params := rfl
@[simp] theorem State.setPlan_odo (s : State) (x : Planner) : (s.setPlan x).odo = s.odo := rfl
@[simp] theorem State.setPlan_geo (s : State) (x : Planner) : (s.setPlan x).geo = s.geo := rfl
@[simp] theorem State.setPlan_ring (s : State) (x : Planner) : (s.setPlan x).ring = s.ring := rfl
@[simp] theorem State.setPlan_plan (s : State) (x : Planner) : (s.setPlan x).plan = x := rfl
@[simp] theorem State.setPlan_chans (s : State) (x : Planner) : (s.setPlan x).chans = s.chans := rfl
@[simp] theorem State.setPlan_line (s : State) (x : Planner) : (s.setPlan x).line = s.line := rfl
@[simp] theorem State.setPlan_link (s : State) (x : Planner) : (s.setPlan x).link = s.link := rfl
@[simp] theorem State.setPlan_again (s : State) (x y : Planner) : (s.setPlan x).setPlan y = s.setPlan y := rfl
theorem State.setPlan_same (s : State) : s.setPlan s.plan = s := rfl

/-! ## State.setChans -/

@[simp] theorem State.setChans_pending (s : State) (x : List Channel) : (s.setChans x).pending = s.pending := rfl
@[simp] theorem State.setChans_inReset (s : State) (x : List Channel) : (s.setChans x).inReset = s.inReset := rfl
@[simp] theorem State.setChans_ctl (s : State) (x : List Channel) : (s.setChans x).ctl = s.ctl := rfl
@[simp] theorem State.setChans_cars (s : State) (x : List Channel) : (s.setChans x).cars = s.cars := rfl
@[simp] theorem State.setChans_params (s : State) (x : List Channel) : (s.setChans x).params = s.params := rfl
@[simp] theorem State.setChans_odo (s : State) (x : List Channel) : (s.setChans x).odo = s.odo := rfl
@[simp] theorem State.setChans_geo (s : State) (x : List Channel) : (s.setChans x).geo = s.geo := rfl
@[simp] theorem State.setChans_ring (s : State) (x : List Channel) : (s.setChans x).ring = s.ring := rfl
@[simp] theorem State.setChans_plan (s : State) (x : List Channel) : (s.setChans x).plan = s.plan := rfl
@[simp] theorem State.setChans_chans (s : State) (x : List Channel) : (s.setChans x).chans = x := rfl
@[simp] theorem State.setChans_line (s : State) (x : List Channel) : (s.setChans x).line = s.line := rfl
@[simp] theorem State.setChans_link (s : State) (x : List Channel) : (s.setChans x).link = s.link := rfl
@[simp] theorem State.setChans_again (s : State) (x y : List Channel) : (s.setChans x).setChans y = s.setChans y := rfl
theorem State.setChans_same (s : State) : s.setChans s.chans = s := rfl

/-! ## State.setLine -/

@[simp] theorem State.setLine_pending (s : State) (x : CarLine) : (s.setLine x).pending = s.pending := rfl
@[simp] theorem State.setLine_inReset (s : State) (x : CarLine) : (s.setLine x).inReset = s.inReset := rfl
@[simp] theorem State.setLine_ctl (s : State) (x : CarLine) : (s.setLine x).ctl = s.ctl := rfl
@[simp] theorem State.setLine_cars (s : State) (x : CarLine) : (s.setLine x).cars = s.cars := rfl
@[simp] theorem State.setLine_params (s : State) (x : CarLine) : (s.setLine x).params = s.params := rfl
@[simp] theorem State.setLine_odo (s : State) (x : CarLine) : (s.setLine x).odo = s.odo := rfl
@[simp] theorem State.setLine_geo (s : State) (x : CarLine) : (s.setLine x).geo = s.geo := rfl
@[simp] theorem State.setLine_ring (s : State) (x : CarLine) : (s.setLine x).ring = s.ring := rfl
@[simp] theorem State.setLine_plan (s : State) (x : CarLine) : (s.setLine x).plan = s.plan := rfl
@[simp] theorem State.setLine_chans (s : State) (x : CarLine) : (s.setLine x).chans = s.chans := rfl
@[simp] theorem State.setLine_line (s : State) (x : CarLine) : (s.setLine x).line = x := rfl
@[simp] theorem State.setLine_link (s : State) (x : CarLine) : (s.setLine x).link = s.link := rfl
@[simp] theorem State.setLine_again (s : State) (x y : CarLine) : (s.setLine x).setLine y = s.setLine y := rfl
theorem State.setLine_same (s : State) : s.setLine s.line = s := rfl

/-! ## State.setLink -/

@[simp] theorem State.setLink_pending (s : State) (x : HostLink) : (s.setLink x).pending = s.pending := rfl
@[simp] theorem State.setLink_inReset (s : State) (x : HostLink) : (s.setLink x).inReset = s.inReset := rfl
@[simp] theorem State.setLink_ctl (s : State) (x : HostLink) : (s.setLink x).ctl = s.ctl := rfl
@[simp] theorem State.setLink_cars (s : State) (x : HostLink) : (s.setLink x).cars = s.cars := rfl
@[simp] theorem State.setLink_params (s : State) (x : HostLink) : (s.setLink x).params = s.params := rfl
@[simp] theorem State.setLink_odo (s : State) (x : HostLink) : (s.setLink x).odo = s.odo := rfl
@[simp] theorem State.setLink_geo (s : State) (x : HostLink) : (s.setLink x).geo = s.geo := rfl
@[simp] theorem State.setLink_ring (s : State) (x : HostLink) : (s.setLink x).ring = s.ring := rfl
@[simp] theorem State.setLink_plan (s : State) (x : HostLink) : (s.setLink x).plan = s.plan := rfl
@[simp] theorem State.setLink_chans (s : State) (x : HostLink) : (s.setLink x).chans = s.chans := rfl
@[simp] theorem State.setLink_line (s : State) (x : HostLink) : (s.setLink x).line = s.line := rfl
@[simp] theorem State.setLink_link (s : State) (x : HostLink) : (s.setLink x).link = x := rfl
@[simp] theorem State.setLink_again (s : State) (x y : HostLink) : (s.setLink x).setLink y = s.setLink y := rfl
theorem State.setLink_same (s : State) : s.setLink s.link = s := rfl

end Sys2Proof.Machine
end

