-- ==== Sys2Proof/Laws/Ops.lean ====
section
/-! SUPPORT. What each shared operation does, said once: the notice set, replies and completions, CENTRE_OK, the
faults of a car, the ends of bindings and the maintenance queue. -/

namespace Sys2Proof.Machine

open Sys2Proof

/-! ## The notice set (R181) -/

@[simp] theorem Notices.get_set_same (n : Notices) (k : NoticeKind) (x : Notice) : (n.set k x).get k = x := by
  cases k <;> rfl

theorem Notices.get_set_other (n : Notices) (j k : NoticeKind) (x : Notice) (h : j ≠ k) :
    (n.set k x).get j = n.get j := by
  cases j <;> cases k <;> first | rfl | exact absurd rfl h

/-- A raise marks its own kind with the flag added and leaves every other kind (R181). -/
theorem Notices.raise_get (n : Notices) (j k : NoticeKind) (flag : Half) :
    (n.raise k flag).get j = if j = k then { pending := true, flags := (n.get k).flags ||| flag } else n.get j := by
  by_cases h : j = k
  · subst h; simp [Notices.raise]
  · simp [Notices.raise, h, Notices.get_set_other n j k _ h]

theorem State.raise_eq (s : State) (k : NoticeKind) (flag : Half) :
    s.raise k flag = { s with link := { s.link with notices := s.link.notices.raise k flag } } := rfl

theorem State.raiseIf_eq (s : State) (c : Bool) (k : NoticeKind) (flag : Half) :
    s.raiseIf c k flag =
      { s with link := { s.link with notices := if c then s.link.notices.raise k flag else s.link.notices } } := by
  cases c <;> rfl

@[simp] theorem State.raise_pending (s : State) (k : NoticeKind) (f : Half) : (s.raise k f).pending = s.pending := rfl
@[simp] theorem State.raise_inReset (s : State) (k : NoticeKind) (f : Half) : (s.raise k f).inReset = s.inReset := rfl
@[simp] theorem State.raise_ctl (s : State) (k : NoticeKind) (f : Half) : (s.raise k f).ctl = s.ctl := rfl
@[simp] theorem State.raise_cars (s : State) (k : NoticeKind) (f : Half) : (s.raise k f).cars = s.cars := rfl
@[simp] theorem State.raise_params (s : State) (k : NoticeKind) (f : Half) : (s.raise k f).params = s.params := rfl
@[simp] theorem State.raise_odo (s : State) (k : NoticeKind) (f : Half) : (s.raise k f).odo = s.odo := rfl
@[simp] theorem State.raise_geo (s : State) (k : NoticeKind) (f : Half) : (s.raise k f).geo = s.geo := rfl
@[simp] theorem State.raise_ring (s : State) (k : NoticeKind) (f : Half) : (s.raise k f).ring = s.ring := rfl
@[simp] theorem State.raise_plan (s : State) (k : NoticeKind) (f : Half) : (s.raise k f).plan = s.plan := rfl
@[simp] theorem State.raise_chans (s : State) (k : NoticeKind) (f : Half) : (s.raise k f).chans = s.chans := rfl
@[simp] theorem State.raise_line (s : State) (k : NoticeKind) (f : Half) : (s.raise k f).line = s.line := rfl
@[simp] theorem State.raise_link (s : State) (k : NoticeKind) (f : Half) :
    (s.raise k f).link = { s.link with notices := s.link.notices.raise k f } := rfl

@[simp] theorem State.raiseIf_true (s : State) (k : NoticeKind) (f : Half) : s.raiseIf true k f = s.raise k f := rfl
@[simp] theorem State.raiseIf_false (s : State) (k : NoticeKind) (f : Half) : s.raiseIf false k f = s := rfl

/-! ## Replies and completions (R177, R178) -/

@[simp] theorem State.respond_eq (s : State) (f : Frame) :
    s.respond f = { s with link := { s.link with reply := some f } } := rfl

@[simp] theorem State.complete_eq (s : State) (f : Frame) :
    s.complete f = { s with link := { s.link with completions := s.link.completions ++ [f] } } := rfl

/-! ## CENTRE_OK (R32, R33) -/

/-- Re-evaluation writes the level of CENTRE_OK and nothing else. -/
theorem State.reevaluate_eq (s : State) :
    s.reevaluate = { s with ctl := { s.ctl with centreOk := centreConditions s } } := rfl

/-- The conditions read the line, the channels, the formation and centreBand alone. -/
theorem centreConditions_congr (s t : State) (hc : t.chans = s.chans) (hf : t.cars = s.cars) (hl : t.line = s.line)
    (hp : t.params = s.params) : centreConditions t = centreConditions s := by
  have hb : isBound t = isBound s := by funext k; simp [isBound, hl]
  have ht : isTilting t = isTilting s := by funext k; simp [isTilting, hf]
  have hk : isConfirmed t = isConfirmed s := by funext k; simp [isConfirmed, hb, hc, hp]
  simp [centreConditions, carIndexes, hc, hf, hl, ht, hk]

@[simp] theorem centreConditions_reevaluate (s : State) : centreConditions s.reevaluate = centreConditions s :=
  centreConditions_congr s s.reevaluate rfl rfl rfl rfl

theorem State.reevaluate_twice (s : State) : s.reevaluate.reevaluate = s.reevaluate := by
  have h := centreConditions_reevaluate s
  show { s.reevaluate with ctl := { s.reevaluate.ctl with centreOk := centreConditions s.reevaluate } } = s.reevaluate
  rw [h]; rfl

/-! ## Channels (R126, R134, R135) -/

@[simp] theorem returnAll_eq (s : State) : returnAll s = { s with chans := s.chans.map Channel.toReturning } := rfl

/-- Returning changes no car's being FOLLOWING or RETURNING, so CENTRE_OK stands. -/
theorem isMoving_toReturning (c : Channel) : isMoving c.toReturning = isMoving c := by
  cases h : c.state <;> simp [isMoving, Channel.toReturning, h]

@[simp] theorem FaultSet.has_add (x : FaultSet) (f g : FaultKind) : (x.add f).has g = (x.has g || decide (f = g)) := by
  cases f <;> cases g <;> simp [FaultSet.add, FaultSet.has]

theorem FaultSet.add_ne_empty (x : FaultSet) (f : FaultKind) : x.add f ≠ .empty := by
  cases f <;> simp [FaultSet.add, FaultSet.empty]

/-- Everything an added fault can do: nothing to a car without a node or with the kind already; a FAILED car gathers
it; any other car fails, and under WHOLE every FOLLOWING car returns (R127, R134, R135). -/
theorem addFault_cases (k : Nat) (kind : FaultKind) (s : State) :
    ((∀ c, s.chans[k]? = some c → c.state = .notFitted ∨ c.state = .failed ∧ c.faults.has kind = true) ∧
      addFault k kind s = s) ∨
    (∃ c, s.chans[k]? = some c ∧ c.state = .failed ∧ c.faults.has kind = false ∧
      addFault k kind s =
        (s.setChans (s.chans.set k { c with faults := c.faults.add kind, unreported := true })).raise .cars noFlag) ∨
    (∃ c, s.chans[k]? = some c ∧ c.state ≠ .failed ∧ c.state ≠ .notFitted ∧
      addFault k kind s =
        ((s.setChans
          (if s.params.faultPolicy = .whole then (s.chans.set k (c.toFailed kind)).map Channel.toReturning
            else s.chans.set k (c.toFailed kind))).raise .cars noFlag).reevaluate) := by
  cases h : s.chans[k]? with
  | none => exact .inl ⟨by simp, by simp [addFault, h]⟩
  | some c =>
    cases hs : c.state with
    | notFitted => exact .inl ⟨by simp [hs], by simp [addFault, h, hs]⟩
    | failed =>
      cases hf : c.faults.has kind with
      | true => exact .inl ⟨by simp [hs, hf], by simp [addFault, h, hs, hf]⟩
      | false => exact .inr (.inl ⟨c, rfl, hs, hf, by simp [addFault, h, hs, hf]⟩)
    | _ =>
      refine .inr (.inr ⟨c, rfl, by simp [hs], by simp [hs], ?_⟩)
      by_cases hp : s.params.faultPolicy = .whole <;>
        simp [addFault, h, hs, hp, returnAll, State.setChans]

/-- An added fault touches the channels, CENTRE_OK and the CARS notice, and nothing else. -/
theorem addFault_frame (k : Nat) (kind : FaultKind) (s : State) :
    addFault k kind s =
      { s with
        chans := (addFault k kind s).chans
        ctl := { s.ctl with centreOk := (addFault k kind s).ctl.centreOk }
        link := { s.link with notices := { s.link.notices with cars := (addFault k kind s).link.notices.cars } } } := by
  rcases addFault_cases k kind s with ⟨-, h⟩ | ⟨c, -, -, -, h⟩ | ⟨c, -, -, -, h⟩ <;> rw [h] <;> rfl

/-! ## The counts of the formation (R2, R150) -/

/-- A count over a list, read place by place. -/
theorem countP_places {α : Type} (p : α → Bool) (l : List α) :
    l.countP p = (List.range l.length).countP (fun k => ((l[k]?).map p).getD false) := by
  induction l with
  | nil => rfl
  | cons c l ih =>
    rw [List.length_cons, List.range_succ_eq_map, List.countP_cons, List.countP_cons, List.countP_map, ih]
    rfl

/-- The tilting count, read car by car. -/
theorem tiltingCount_eq (s : State) : tiltingCount s = (carIndexes s).countP (isTilting s) :=
  countP_places Car.tilting s.cars

/-- The bound and the missing cars together are the tilting ones. -/
theorem bound_add_missing (s : State) : boundCount s + missingCount s = tiltingCount s := by
  have h : boundCount s ≤ tiltingCount s := by
    rw [tiltingCount_eq]
    exact List.countP_mono_left fun k _ h => by simp at h; exact h.1
  unfold missingCount; omega

/-! ## Bindings (R122, R123, R155) -/

/-- A binding is made: the node's entry, the car's channel, CENTRE_OK (R122, R123). -/
theorem bindCar_eq (k : Nat) (x : Serial) (s : State) :
    bindCar k x s =
      ({ s with
         line := { s.line with nodes := s.line.nodes.set k { serial := some x, miss := 0 } }
         chans := s.chans.modify k Channel.toBound } : State).reevaluate := rfl

/-- A binding is ended: the node's entry and CENTRE_OK (R155, R160). -/
theorem unbind_eq (k : Nat) (s : State) :
    unbind k s =
      ({ s with line := { s.line with nodes := s.line.nodes.set k { serial := none, miss := 0 } } } :
        State).reevaluate := rfl

/-! ## The maintenance queue (R156, R166) -/

/-- A flush completes every entry with LINE_STOPPED, in queue order, and empties the queue. -/
theorem flushMaintenance_eq (s : State) :
    flushMaintenance s =
      { s with
        link := { s.link with
          completions := s.link.completions ++ s.line.maint.map (fun e => transferFrame e .lineStopped 0#16) }
        line := { s.line with maint := [] } } := rfl

/-- The entry at the head is completed and removed; an empty queue is left. -/
theorem completeHead_eq (r : ResultCode) (value : Half) (s : State) :
    completeHead r value s =
      { s with
        line := { s.line with maint := s.line.maint.drop 1 }
        link := { s.link with
          completions :=
            s.link.completions ++ (s.line.maint.head?.map (fun e => transferFrame e r value)).toList } } := by
  obtain ⟨_, _, _, _, _, _, _, _, _, _, line, _⟩ := s
  obtain ⟨_, _, _, _, _, _, maint, _, _, _⟩ := line
  cases maint <;> simp [completeHead, State.setLine, State.complete, State.setLink]

end Sys2Proof.Machine
end

