-- ==== Sys2Proof/Laws/Blocks.lean ====
section
/-! SUPPORT. What the operations that several commands of one block share can do, said once: the look-ahead and trust,
the mode changes made without a request, the foreign-node table, the parked list, the ends of a muster and a halt. -/

namespace Sys2Proof.Machine

open Sys2Proof

/-! ## The geometry store (R65, R81) -/

/-- Everything an evaluation of the look-ahead can do: warn once and disarm, arm, or nothing (R81). -/
theorem evaluateLookAhead_cases (s : State) :
    evaluateLookAhead s = s ∨
    (s.geo.armed = true ∧ lookAhead s < s.params.lookLow ∧
      evaluateLookAhead s = (s.setGeo { s.geo with armed := false }).raise .geometry flagLookLow) ∨
    (s.geo.armed = false ∧ (s.params.lookHigh : Int) < lookAhead s ∧
      evaluateLookAhead s = s.setGeo { s.geo with armed := true }) := by
  unfold evaluateLookAhead
  cases ha : s.geo.armed
  · by_cases h : (s.params.lookHigh : Int) < lookAhead s <;> simp [h]
  · by_cases h : lookAhead s < s.params.lookLow <;> simp [h]

/-- The committed list and the batch are as they were. -/
theorem evaluateLookAhead_geo (s : State) :
    (evaluateLookAhead s).geo = { s.geo with armed := (evaluateLookAhead s).geo.armed } := by
  rcases evaluateLookAhead_cases s with h | ⟨-, -, h⟩ | ⟨-, -, h⟩ <;> rw [h] <;> rfl

/-- A position is covered exactly by the first segment found there (R65). -/
theorem GeoStore.at_covers {g : GeoStore} {p : Int} {x : Segment} (h : g.at p = some x) :
    x ∈ g.committed ∧ x.start ≤ p ∧ p < x.stop := by
  have h1 := List.mem_of_find?_eq_some h
  have h2 := List.find?_some h
  simp only [Segment.covers, decide_eq_true_eq] at h2
  exact ⟨h1, h2⟩

/-! ## The odometer (R37, R43, R48) -/

/-- The levels that a pair can take: the ones it has, its next, its last, or both lines changed. -/
theorem quarterOf_cases (p q : Pair) :
    (q = nextPair p ∧ quarterOf p q = 1) ∨ (p = nextPair q ∧ quarterOf p q = -1) ∨
      ((q = p ∨ q = nextPair (nextPair p)) ∧ quarterOf p q = 0) := by
  obtain ⟨a, b⟩ := p
  obtain ⟨c, d⟩ := q
  cases a <;> cases b <;> cases c <;> cases d <;> decide

/-- Everything the pulse decoder can do: a cycle forward, a cycle back, or part of one (R37). -/
theorem Tacho.decode_cases (levels : Pair) (t : Tacho) (h : t.quarters.natAbs ≤ 3) :
    (t.quarters = 3 ∧ levels = nextPair t.phase ∧
      t.decode levels = { t with phase := levels, quarters := 0, increment := t.increment + 1 }) ∨
    (t.quarters = -3 ∧ t.phase = nextPair levels ∧
      t.decode levels = { t with phase := levels, quarters := 0, increment := t.increment - 1 }) ∨
    ((t.quarters + quarterOf t.phase levels).natAbs ≤ 3 ∧
      t.decode levels = { t with phase := levels, quarters := t.quarters + quarterOf t.phase levels }) := by
  unfold Tacho.decode
  rcases quarterOf_cases t.phase levels with ⟨hl, hq⟩ | ⟨hl, hq⟩ | ⟨-, hq⟩ <;> simp only [hq]
  · by_cases h3 : t.quarters = 3
    · exact .inl ⟨h3, hl, by simp [h3]⟩
    · exact .inr (.inr ⟨by omega, by rw [if_neg (by omega), if_neg (by omega)]⟩)
  · by_cases h3 : t.quarters = -3
    · exact .inr (.inl ⟨h3, hl, by simp [h3]⟩)
    · exact .inr (.inr ⟨by omega, by rw [if_neg (by omega), if_neg (by omega)]⟩)
  · exact .inr (.inr ⟨by omega, by rw [if_neg (by omega), if_neg (by omega)]⟩)

/-- An advance inside the range is exact, to the micrometre (R43). -/
theorem advance_exact (d : Int) (o : Odometer) (h1 : Config.posMin ≤ (o.pos * 10000 + o.rho + d) / 10000)
    (h2 : (o.pos * 10000 + o.rho + d) / 10000 ≤ Config.posMax) :
    (advance d o).pos * 10000 + (advance d o).rho = o.pos * 10000 + o.rho + d := by
  unfold advance
  simp only [show ¬ Config.posMax < (o.pos * 10000 + o.rho + d) / 10000 by omega,
    show ¬ (o.pos * 10000 + o.rho + d) / 10000 < Config.posMin by omega, if_false]
  omega

/-- An advance leaves the remainder within 0 to 9,999 (R43). -/
theorem advance_rho (d : Int) (o : Odometer) : 0 ≤ (advance d o).rho ∧ (advance d o).rho < 10000 := by
  unfold advance
  simp only
  split
  · simp
  · split
    · simp
    · constructor <;> simp only <;> omega

/-- Everything a re-evaluation of trust can do (R48). -/
theorem evaluateTrust_cases (s : State) :
    evaluateTrust s = s ∨
    (nextTrust s.params s.odo ≠ s.odo.trust ∧
      evaluateTrust s =
        (s.setOdo { s.odo with trust := nextTrust s.params s.odo }).raise .position flagTrustChanged) := by
  unfold evaluateTrust
  by_cases h : nextTrust s.params s.odo = s.odo.trust
  · left; simp [h]; rfl
  · right; refine ⟨h, ?_⟩; simp [State.raiseIf, h]

/-! ## The mode controller (R29, R31) -/

/-- A mode change made without a request: the mode, the cause, the cars, CENTRE_OK and the MODE notice. -/
theorem leaveActive_eq (m : Mode) (c : Cause) (s : State) :
    leaveActive m c s =
      { s with
        chans := s.chans.map Channel.toReturning
        ctl := { s.ctl with mode := m, cause := c, centreOk := (leaveActive m c s).ctl.centreOk }
        link := { s.link with notices := s.link.notices.raise .mode noFlag } } := rfl

/-! ## The car line (R143, R149, R161) -/

@[simp] theorem setExch_eq (x : Exchange) (s : State) :
    setExch x s = { s with line := { s.line with exch := x } } := rfl

@[simp] theorem sendFrame_eq (f : LineFrame) (s : State) :
    sendFrame f s = { s with line := { s.line with exch := .echo f } } := rfl

/-- A foreign address holds what is put there, and the others what they held. -/
theorem Foreign.get_put (f : Foreign) (a b : Nat) (x : Option Serial) (h : a = 13 ∨ a = 14 ∨ a = 15) :
    (f.put a x).get b = if b = a then x else f.get b := by
  rcases h with rfl | rfl | rfl <;> simp only [Foreign.put] <;> unfold Foreign.get <;> split <;> simp_all

/-- No entry holds a serial that has been dropped (R161, step 1). -/
theorem Foreign.get_drop (f : Foreign) (x : Serial) (a : Nat) :
    (f.drop x).get a = if f.get a = some x then none else f.get a := by
  unfold Foreign.get Foreign.drop
  split <;> simp

/-- The highest free address is the highest foreign address that holds nothing (R149, R161). -/
theorem Foreign.highestFree_some {f : Foreign} {a : Nat} :
    f.highestFree = some a ↔
      13 ≤ a ∧ a ≤ 15 ∧ f.get a = none ∧ ∀ b, a < b → b ≤ 15 → f.get b ≠ none := by
  have h14 (P : Nat → Prop) : (∀ b, 14 < b → b ≤ 15 → P b) ↔ P 15 :=
    ⟨fun h => h 15 (by omega) (by omega), fun h b h1 h2 => (show b = 15 by omega) ▸ h⟩
  have h13 (P : Nat → Prop) : (∀ b, 13 < b → b ≤ 15 → P b) ↔ P 14 ∧ P 15 :=
    ⟨fun h => ⟨h 14 (by omega) (by omega), h 15 (by omega) (by omega)⟩, fun h b h1 h2 => by
      rcases (show b = 14 ∨ b = 15 by omega) with rfl | rfl
      exacts [h.1, h.2]⟩
  constructor
  · intro h
    have h1 := List.mem_of_find?_eq_some h
    simp only [List.mem_cons, List.not_mem_nil, or_false] at h1
    rcases h1 with rfl | rfl | rfl <;> revert h <;>
      cases e3 : f.get 13 <;> cases e4 : f.get 14 <;> cases e5 : f.get 15 <;>
      simp [Foreign.highestFree, h13, h14, e3, e4, e5] <;> omega
  · rintro ⟨h1, h2, h3, h4⟩
    rcases (show a = 13 ∨ a = 14 ∨ a = 15 by omega) with rfl | rfl | rfl
    · obtain ⟨h5, h6⟩ := (h13 _).1 h4
      cases e4 : f.get 14 <;> cases e5 : f.get 15 <;> simp_all [Foreign.highestFree]
    · have h5 := (h14 _).1 h4
      cases e5 : f.get 15 <;> simp_all [Foreign.highestFree]
    · simp [Foreign.highestFree, h3]

/-- No foreign address is free exactly when all three hold a serial (R149, R161). -/
theorem Foreign.highestFree_none {f : Foreign} :
    f.highestFree = none ↔ f.get 13 ≠ none ∧ f.get 14 ≠ none ∧ f.get 15 ≠ none := by
  simp only [Foreign.highestFree, List.find?_eq_none, List.mem_cons, List.not_mem_nil, or_false]
  constructor
  · intro h; exact ⟨by simpa using h 13, by simpa using h 14, by simpa using h 15⟩
  · rintro ⟨h1, h2, h3⟩ x (rfl | rfl | rfl) <;> simpa

/-- A serial has no foreign address exactly when no entry holds it (R149). -/
theorem Foreign.addressOf_none {f : Foreign} {x : Serial} :
    f.addressOf x = none ↔ ∀ a, f.get a ≠ some x := by
  refine ⟨fun h a => ?_, fun h => by simp [Foreign.addressOf, h]⟩
  simp only [Foreign.addressOf, List.find?_eq_none, List.mem_cons, List.not_mem_nil, or_false] at h
  by_cases ha : a = 13 ∨ a = 14 ∨ a = 15
  · simpa using h a ha
  · unfold Foreign.get; split <;> simp_all

/-! ## The serials of the formation (R149, R160) -/

/-- A serial is no car's exactly when no car of the formation has it as its own. -/
theorem carOfSerial_none {s : State} {x : Serial} : carOfSerial s x = none ↔ ∀ k, ownSerial s k ≠ some x := by
  simp only [carOfSerial, ownSerial, List.findIdx?_eq_none_iff]
  constructor
  · intro h k e
    cases hc : s.cars[k]? with
    | none => simp [hc] at e
    | some c =>
      have h1 := h c (List.mem_of_getElem? hc)
      simp_all
  · intro h c hc
    obtain ⟨k, hk⟩ := List.getElem?_of_mem hc
    have := h k
    simpa [hk] using this

/-- A serial that one car alone has as its own is that car's. -/
theorem carOfSerial_some {s : State} {x : Serial} {k : Nat} (h : ownSerial s k = some x)
    (once : ∀ j, ownSerial s j = some x → j = k) : carOfSerial s x = some k := by
  cases hc : carOfSerial s x with
  | none => exact absurd h (carOfSerial_none.1 hc k)
  | some j =>
    obtain ⟨hj, he, -⟩ := List.findIdx?_eq_some_iff_getElem.1 hc
    rw [once j (by simpa [ownSerial, hj] using he)]

/-! ## The faults of a car (R127, R134, R135) -/

/-- An added fault does to the train what the word of the claims says. -/
theorem addFault_adds {s : State} {k : Nat} {c : Channel} (kind : FaultKind) (h : s.chans[k]? = some c) :
    AddsFault kind k c s (addFault k kind s) := by
  obtain ⟨hk, -⟩ := List.getElem?_eq_some_iff.1 h
  rcases addFault_cases k kind s with ⟨hc, e⟩ | ⟨d, hd, hs, hf, e⟩ | ⟨d, hd, hs, hn, e⟩
  · rw [e]
    refine ⟨⟨c, h, ?_⟩, ?_, rfl, fun j b _ hb => ?_⟩ <;>
      rcases hc c h with hs | ⟨hs, hf⟩ <;> simp [GainsFault, isNews, *]
  · obtain rfl : c = d := by simpa [h] using hd
    rw [e]
    refine ⟨⟨_, List.getElem?_set_self hk, ?_⟩, ?_, ?_, fun j b hj hb => ?_⟩
    · simp [GainsFault, hs, hf]
    · simp [isNews, hs, hf, noFlag, Notices.raise, Notices.get, Notices.set]
    · simp
    · simp [hs, List.getElem?_set_ne hj.symm, hb]
  · obtain rfl : c = d := by simpa [h] using hd
    rw [e]
    by_cases hp : s.params.faultPolicy = .whole
    · refine ⟨⟨c.toFailed kind, ?_, ?_⟩, ?_, ?_, fun j b hj hb => ?_⟩
      · simp [hp, hk, Channel.toReturning, Channel.toFailed, State.reevaluate]
      · simp [GainsFault, hs, hn, Channel.toFailed]
      · simp [isNews, hs, hn, noFlag, Notices.raise, Notices.get, Notices.set, State.reevaluate]
      · simp [hp, State.reevaluate]
      · simp [hp, hs, hn, State.reevaluate, List.getElem?_set_ne hj.symm, hb, Channel.toReturning]
    · refine ⟨⟨c.toFailed kind, ?_, ?_⟩, ?_, ?_, fun j b hj hb => ?_⟩
      · simp [hp, hk, State.reevaluate]
      · simp [GainsFault, hs, hn, Channel.toFailed]
      · simp [isNews, hs, hn, noFlag, Notices.raise, Notices.get, Notices.set, State.reevaluate]
      · simp [hp, State.reevaluate]
      · simp [hp, State.reevaluate, List.getElem?_set_ne hj.symm, hb]

/-! ## The report of a computation (R183) -/

/-- A report counted does what the word of the claims says. -/
theorem countReport_counts (s : State) : CountsReport s (countReport s) := by
  refine ⟨fun h => ?_, fun h n => ?_, fun h n => ?_⟩
  · simp [countReport, h]
  · simp [countReport, h, show s.link.countdown - 1 ≠ 0 by omega]
  · simp [countReport, h, n, noFlag, Notices.raise, Notices.get, Notices.set]

/-! ## CENTRE_OK (R32) -/

/-- The conditions of R32 as the model computes them. -/
theorem centreConditions_iff (s : State) :
    centreConditions s = true ↔
      s.line.state = .cycling ∧ (∀ c ∈ s.chans, c.state ≠ .following ∧ c.state ≠ .returning) ∧
      ∀ k, k < s.cars.length → isTilting s k = true → isBound s k = true ∧
        ∃ c a, s.chans[k]? = some c ∧ c.angle = some a ∧ a.natAbs ≤ s.params.centreBand := by
  have hk (k : Nat) : isConfirmed s k = true ↔ isBound s k = true ∧
      ∃ c a, s.chans[k]? = some c ∧ c.angle = some a ∧ a.natAbs ≤ s.params.centreBand := by
    unfold isConfirmed
    cases s.chans[k]? with
    | none => simp
    | some c => cases h : c.angle <;> simp [h]
  simp only [centreConditions, Bool.and_eq_true, beq_iff_eq, List.all_eq_true, carIndexes, List.mem_range,
    Bool.or_eq_true, hk, and_assoc]
  refine and_congr Iff.rfl (and_congr ?_ ?_)
  · simp [isMoving]
  · refine forall_congr' fun k => forall_congr' fun _ => ?_
    cases isTilting s k <;> simp

/-- CENTRE_OK stands true exactly when it holds what the model computes. -/
theorem centreLaw_iff (s : State) : CentreLaw s ↔ s.ctl.centreOk = centreConditions s := by
  rw [CentreLaw, ← centreConditions_iff]
  cases s.ctl.centreOk <;> cases centreConditions s <;> simp

/-- The parked list never grows beyond its capacity (R143). -/
theorem parkSerial_length (x : Serial) (s : State) (h : s.line.parked.length ≤ Config.parkedCapacity) :
    (parkSerial x s).line.parked.length ≤ Config.parkedCapacity := by
  unfold parkSerial
  split
  · rename_i h2; simpa [State.setLine] using h2
  · exact h

/-- A RollCall is completed once, where a muster is in progress, and the muster is then over (R150, R151). -/
theorem completeRollCall_cases (r : ResultCode) (d : Detail) (s : State) :
    (s.line.muster = none ∧ completeRollCall r d s = s) ∨
    (∃ m, s.line.muster = some m ∧
      completeRollCall r d s =
        { s with
          line := { s.line with muster := none }
          link := { s.link with
            completions := s.link.completions ++ [replyFrame 0x30#8 m.tag r d 0 (rollCallBody s)] } }) := by
  cases h : s.line.muster with
  | none => exact .inl ⟨rfl, by simp [completeRollCall, h]⟩
  | some m => exact .inr ⟨m, rfl, by simp [completeRollCall, h, State.setLine]⟩

end Sys2Proof.Machine
end

