-- ==== Sys2Proof/Laws/Channels.lean ====
section
/-! SUPPORT. What one limiter pass answers (R129, R130): the braking bound is the largest that R129 allows, and what a
pass leaves of the channel. -/

namespace Sys2Proof.Machine

open Sys2Proof

/-- The bits found so far are allowed, and the bound lies below them plus what the remaining bits can add. -/
theorem brakeBits_spec (d x n b : Nat) (h1 : b * (b + d) ≤ x) (h2 : x < (b + 2 ^ n) * (b + 2 ^ n + d)) :
    brakeBits d x n b * (brakeBits d x n b + d) ≤ x ∧
      x < (brakeBits d x n b + 1) * (brakeBits d x n b + 1 + d) := by
  induction n generalizing b with
  | zero => exact ⟨h1, by simpa [brakeBits] using h2⟩
  | succ n ih =>
    by_cases hc : (b + 2 ^ n) * (b + 2 ^ n + d) ≤ x
    · simpa [brakeBits, hc] using ih _ hc (by rwa [show b + 2 ^ n + 2 ^ n = b + 2 ^ (n + 1) by ring])
    · simpa [brakeBits, hc] using ih _ h1 (by omega)

/-- The braking bound of R129, step 4: the largest b ≥ 0 with b × (b + dStep) ≤ 2 × dStep × |e|. -/
theorem brakeBound_spec (d e : Nat) :
    brakeBound d e * (brakeBound d e + d) ≤ 2 * d * e ∧
      2 * d * e < (brakeBound d e + 1) * (brakeBound d e + 1 + d) := by
  refine brakeBits_spec d (2 * d * e) _ 0 (by simp) ?_
  have h : 2 * d * e < 2 ^ ((2 * d * e).log2 + 1) := Nat.lt_log2_self
  calc 2 * d * e < 2 ^ ((2 * d * e).log2 + 1) := h
    _ ≤ 2 ^ ((2 * d * e).log2 + 1) * (2 ^ ((2 * d * e).log2 + 1) + d) :=
        Nat.le_mul_of_pos_right _ (by positivity)
    _ = _ := by ring

/-- A pass changes the set-point and the step and nothing else of the channel. -/
theorem limiterPass_frame (p : Params) (t : Int) (c : Channel) :
    limiterPass p t c = { c with theta := (limiterPass p t c).theta, step := (limiterPass p t c).step } := rfl

/-- The step recorded is the change made (R129, step 7). -/
theorem limiterPass_step (p : Params) (t : Int) (c : Channel) :
    (limiterPass p t c).step = (limiterPass p t c).theta - c.theta := rfl

/-- The set-point stays within ±thetaMax (R130). -/
theorem limiterPass_theta_le (p : Params) (t : Int) (c : Channel) : (limiterPass p t c).theta.natAbs ≤ p.thetaMax :=
  clampAbs_natAbs_le _ _

/-- A car of a state that no target list moves is left as it stands (R125, step 4). -/
theorem arrive_still (p : Params) (allowed : Bool) (t : Int) (c : Channel)
    (h : c.state = .notFitted ∨ c.state = .absent ∨ c.state = .failed) : arrive p allowed t c = c := by
  rcases h with h | h | h <;> simp [arrive, h]

end Sys2Proof.Machine
end

