-- ==== Sys2Proof/Laws/HostLink.lean ====
section
/-! SUPPORT. What the transmitter's choice does (R180), what the end of a good frame does (R174, R176): dropped, waiting
or handled; and what a request's command does where the link is free. -/

namespace Sys2Proof.Machine

open Sys2Proof

/-! ## The characters (R170) -/

/-- The bits of a character in their order on the line: start, data from the least significant, even parity, stop. -/
theorem charBits_spec (b : Byte) :
    (charBits b).getLsbD 0 = false ∧ (∀ i, i < 8 → (charBits b).getLsbD (i + 1) = b.getLsbD i) ∧
      (charBits b).getLsbD 9 = isOdd b ∧ (charBits b).getLsbD 10 = true := by
  unfold charBits
  refine ⟨?_, fun i hi => ?_, ?_, ?_⟩ <;> simp only [BitVec.getLsbD_append]
  · simp
  · simp [hi]
  · simp
  · simp

/-! ## The transmitter (R180) -/

/-- Everything a choice of the arbiter can do: the reply and then the request that waited for its slot, the oldest
completion, the pending notice of highest priority, or nothing (R177, R180). -/
theorem choose_cases (s : State) :
    (∃ f, s.link.reply = some f ∧
      choose s = handOver (transmit f (s.setLink { s.link with reply := none }))) ∨
    (s.link.reply = none ∧ ∃ f rest, s.link.completions = f :: rest ∧
      choose s = transmit f (s.setLink { s.link with completions := rest })) ∨
    (s.link.reply = none ∧ s.link.completions = [] ∧ ∃ k, firstNotice s = some k ∧ choose s = sendNotice k s) ∨
    (s.link.reply = none ∧ s.link.completions = [] ∧ firstNotice s = none ∧ choose s = s) := by
  cases hr : s.link.reply with
  | some f => exact .inl ⟨f, rfl, by simp [choose, hr]⟩
  | none =>
    cases hc : s.link.completions with
    | cons f rest => exact .inr (.inl ⟨rfl, f, rest, rfl, by simp [choose, hr, hc]⟩)
    | nil =>
      cases hn : firstNotice s with
      | some k => exact .inr (.inr (.inl ⟨rfl, rfl, k, rfl, by simp [choose, hr, hc, hn]⟩))
      | none => exact .inr (.inr (.inr ⟨rfl, rfl, rfl, by simp [choose, hr, hc, hn]⟩))

/-- A transmitter that is sending chooses nothing. -/
theorem chooseIfIdle_busy {s : State} (h : s.link.sending ≠ none) : chooseIfIdle s = s := by
  simp [chooseIfIdle, h]

/-- With nothing waiting an idle transmitter stays idle. -/
theorem chooseIfIdle_settled {s : State} (h : Settled s) : chooseIfIdle s = s := by
  by_cases hs : s.link.sending = none
  · obtain ⟨hr, hc, hn⟩ := h hs
    have hf : firstNotice s = none := List.find?_eq_none.2 (by simpa using hn)
    simp [chooseIfIdle, choose, hs, hr, hc, hf]
  · exact chooseIfIdle_busy hs

/-- A command acts on a part that runs, and an idle transmitter then chooses. -/
theorem act_running (f : State → State) {s : State} (h : Running s) : act f s = .next (chooseIfIdle (f s)) := by
  simp [act, unlessHeld, h.1, chooseIfIdle_settled h.2]

/-! ## The end of a good frame (R174, R176) -/

/-- A good frame that finds the slot occupied is dropped and counted refused. -/
theorem receive_drop (f : Frame) (handle : State → State) (s : State) (h : s.link.slot.isSome = true) :
    receive f handle s = dropFrame s := by simp [receive, h]

/-- A good frame that finds the slot empty while the link is not ready waits in it. -/
theorem receive_wait (f : Frame) (handle : State → State) (s : State) (h : s.link.slot = none)
    (r : isReady s = false) : receive f handle s = s.setLink { s.link with slot := some f } := by
  simp [receive, h, r]

/-- A good frame is handled at once where the link is ready and no frame waits. -/
theorem receive_handle (f : Frame) (handle : State → State) (s : State) (h : s.link.slot = none)
    (r : isReady s = true) : receive f handle s = handle s := by simp [receive, h, r]

/-- A free link is ready. -/
theorem LinkFree.ready {s : State} (free : LinkFree s) : isReady s = true := by simp [isReady, free.2.2.1, free.2.2.2]

/-- A request's command on a free link is the handling of its request, and an idle transmitter then chooses. -/
theorem exec_request {c : Instr} {tag : Byte} {r : Request} {s : State} (free : LinkFree s)
    (h : commandRequest c = some (tag, r)) : exec c s = .next (chooseIfIdle (handleRequest tag r s)) := by
  obtain ⟨hr, hs, -⟩ := id free
  have hh : submit tag r s = handleRequest tag r s := receive_handle _ _ s hs free.ready
  rw [← hh]
  cases c <;> simp only [commandRequest, Option.some.injEq, Prod.mk.injEq, reduceCtorEq] at h <;>
    (obtain ⟨rfl, rfl⟩ := h
     exact act_running _ hr)

/-- A request that passes the link's checks is its owner's. -/
theorem handleRequest_serve (tag : Byte) (r : Request) (s : State) (h1 : lengthAgrees r = true)
    (h2 : admitted r s = true) (h3 : reservedFault r = none) : handleRequest tag r s = serve tag r s := by
  simp [handleRequest, h1, h2, h3]

/-- Everything the end of a good frame can do. -/
theorem receive_cases (f : Frame) (handle : State → State) (s : State) :
    receive f handle s = dropFrame s ∨ receive f handle s = handle s ∨
      receive f handle s = s.setLink { s.link with slot := some f } := by
  unfold receive
  split
  · exact .inl rfl
  · split
    · exact .inr (.inl rfl)
    · exact .inr (.inr rfl)

end Sys2Proof.Machine
end

