-- ==== Sys2Proof/WellFormed.lean ====
section
/-! DEFINITION. Which commands the outside world can send: a body that fits a frame (R188), a KIND that is no
request's (R176), line addresses and car indexes within their ranges (R1, R144). -/

namespace Sys2Proof

/-- A line address, 1 to 15 (R144). -/
def goodAddress (a : Nat) : Bool := decide (1 ≤ a ∧ a ≤ 15)

/-- A car index, 0 to 11 (R1). -/
def goodCar (k : Nat) : Bool := decide (k < Config.carCapacity)

/-- Whether a command is one the outside world can send. -/
def Instr.wellFormed : Instr → Bool
  | .setFormation _ _ _ _ _ records => decide (records.length ≤ 15)
  | .addSegments _ _ _ _ _ records => decide (records.length ≤ 12)
  | .unknownKind kind _ body => !requestCodes.contains kind && decide (body.length ≤ 248)
  | .stat address _ _ _ _ => goodAddress address
  | .mrsp address _ _ => goodAddress address
  | .alrt address _ _ => goodAddress address
  | .contentionKey (.alert address) => goodAddress address
  | .contentionKey _ => true
  | .tracking car => goodCar car
  | .nodeLost car => goodCar car
  | .identify _ | .queryStatus _ | .commission _ | .returnToSetup _ | .startRun _ _ | .endRun _
  | .enableTilt _ | .disableTilt _ | .resumeTilt _ | .reset _ | .setParameters _ _ | .getParameters _
  | .getFormation _ | .resolveCapture _ _ _ _ _ | .queryPosition _ | .openBatch _ _ | .closeBatch _ _
  | .truncateGeometry _ _ | .queryGeometry _ | .queryCar _ _ | .clearCarFault _ _ | .rollCall _
  | .nodeTransfer _ _ _ _ _ _ | .readAlerts _ | .setReporting _ _ | .resetN _ | .inhibitSample _
  | .inhibitAsserted | .inhibitReleased | .markerSample _ | .markerRisingEdge | .pulseDecode _ _
  | .odometrySlot | .tachoFailed _ | .plannerComputation | .telemetryCountdown | .targetListArrival
  | .lineCycle | .frameEcho _ | .lineHalt | .replySilence | .claimRound _ | .musterEnd | .frameEnd | .gap
  | .frameSent _ | .characterReceived _ _ _ | .characterTaken | .rxdIdleLevel | .resetNAsserted => true

end Sys2Proof
end

