-- ==== Sys2Proof/Laws/PerInstr.lean ====
section
/-! SUPPORT. A statement made of every command, by one lemma per command: the frame of a well-formed command has a body
that a LENGTH can announce (R188). -/

namespace Sys2Proof.Laws.BodyFits

open Sys2Proof Sys2Proof.Machine

/-- The body of the frame that a well-formed command stands for is at most 248 bytes long; a command that is no frame's
stands for none. -/
def Statement (i : Instr) : Prop := i.wellFormed = true → ∀ f, commandFrame i = some f → f.body.length ≤ 248

theorem bodies_length {α : Type} (g : α → List Byte) (n : Nat) (h : ∀ x, (g x).length = n) (l : List α) :
    (l.flatMap g).length = l.length * n := by
  induction l with
  | nil => simp
  | cons a l ih => simp [ih, h]; ring

/-- A command that is no frame's. -/
theorem of_none {i : Instr} (h : commandFrame i = none) : Statement i := by
  intro _ f hf; rw [h] at hf; exact absurd hf (by simp)

/-- A request whose body is short whatever its fields. -/
theorem of_body {i : Instr} {f : Frame} (h : commandFrame i = some f) (hb : f.body.length ≤ 248) : Statement i := by
  intro _ g hg
  rw [h] at hg
  exact (Option.some.inj hg) ▸ hb

theorem identify (tag : Byte) : Statement (.identify tag) := of_body rfl (Nat.zero_le _)

theorem queryStatus (tag : Byte) : Statement (.queryStatus tag) := of_body rfl (Nat.zero_le _)

theorem commission (tag : Byte) : Statement (.commission tag) := of_body rfl (Nat.zero_le _)

theorem returnToSetup (tag : Byte) : Statement (.returnToSetup tag) := of_body rfl (Nat.zero_le _)

theorem startRun (tag : Byte) (origin : Word) : Statement (.startRun tag origin) :=
    of_body rfl (by simp [requestFrame, requestBody])

theorem endRun (tag : Byte) : Statement (.endRun tag) := of_body rfl (Nat.zero_le _)

theorem enableTilt (tag : Byte) : Statement (.enableTilt tag) := of_body rfl (Nat.zero_le _)

theorem disableTilt (tag : Byte) : Statement (.disableTilt tag) := of_body rfl (Nat.zero_le _)

theorem resumeTilt (tag : Byte) : Statement (.resumeTilt tag) := of_body rfl (Nat.zero_le _)

theorem reset (tag : Byte) : Statement (.reset tag) := of_body rfl (Nat.zero_le _)

theorem setParameters (tag : Byte) (values : Vector Word 28) : Statement (.setParameters tag values) := by
  refine of_body rfl ?_
  show ((values.toList.flatMap bytes4)).length ≤ 248
  rw [bodies_length bytes4 4 bytes4_length]
  simp

theorem getParameters (tag : Byte) : Statement (.getParameters tag) := of_body rfl (Nat.zero_le _)

theorem setFormation (tag count rsv1 rsv2 rsv3 : Byte) (records : List CarWire) :
  Statement (.setFormation tag count rsv1 rsv2 rsv3 records) :=
    by
  intro h f hf
  obtain rfl := Option.some.inj hf
  have h : records.length ≤ 15 := of_decide_eq_true h
  show ([count, rsv1, rsv2, rsv3] ++ records.flatMap carBytes).length ≤ 248
  rw [List.length_append, bodies_length carBytes 16 (fun _ => rfl)]
  simp; omega

theorem getFormation (tag : Byte) : Statement (.getFormation tag) := of_body rfl (Nat.zero_le _)

theorem resolveCapture (tag : Byte) (number : Half) (rsv2 rsv3 : Byte) (x : Word) :
  Statement (.resolveCapture tag number rsv2 rsv3 x) :=
    of_body rfl (by simp [requestFrame, requestBody])

theorem queryPosition (tag : Byte) : Statement (.queryPosition tag) := of_body rfl (Nat.zero_le _)

theorem openBatch (tag : Byte) (declared : Word) : Statement (.openBatch tag declared) :=
    of_body rfl (by simp [requestFrame, requestBody])

theorem addSegments (tag count rsv1 rsv2 rsv3 : Byte) (records : List SegmentWire) :
  Statement (.addSegments tag count rsv1 rsv2 rsv3 records) :=
    by
  intro h f hf
  obtain rfl := Option.some.inj hf
  have h : records.length ≤ 12 := of_decide_eq_true h
  show ([count, rsv1, rsv2, rsv3] ++ records.flatMap segmentBytes).length ≤ 248
  rw [List.length_append, bodies_length segmentBytes 20 (fun _ => rfl)]
  simp; omega

theorem closeBatch (tag count : Byte) : Statement (.closeBatch tag count) :=
    of_body rfl (by simp [requestFrame, requestBody])

theorem truncateGeometry (tag : Byte) (x : Word) : Statement (.truncateGeometry tag x) :=
    of_body rfl (by simp [requestFrame, requestBody])

theorem queryGeometry (tag : Byte) : Statement (.queryGeometry tag) := of_body rfl (Nat.zero_le _)

theorem queryCar (tag car : Byte) : Statement (.queryCar tag car) := of_body rfl (by simp [requestFrame, requestBody])

theorem clearCarFault (tag car : Byte) : Statement (.clearCarFault tag car) :=
    of_body rfl (by simp [requestFrame, requestBody])

theorem rollCall (tag : Byte) : Statement (.rollCall tag) := of_body rfl (Nat.zero_le _)

theorem nodeTransfer (tag car direction item rsv3 : Byte) (value : Half) :
  Statement (.nodeTransfer tag car direction item rsv3 value) :=
    of_body rfl (by simp [requestFrame, requestBody])

theorem readAlerts (tag : Byte) : Statement (.readAlerts tag) := of_body rfl (Nat.zero_le _)

theorem setReporting (tag : Byte) (period : Half) : Statement (.setReporting tag period) :=
    of_body rfl (by simp [requestFrame, requestBody])

theorem unknownKind (kind tag : Byte) (body : List Byte) : Statement (.unknownKind kind tag body) := by
  intro h f hf
  obtain rfl := Option.some.inj hf
  have h2 := (Bool.and_eq_true _ _).mp h
  exact of_decide_eq_true h2.2

theorem resetN (pins : Pins) : Statement (.resetN pins) := of_none rfl

theorem inhibitSample (asserted : Bool) : Statement (.inhibitSample asserted) := of_none rfl

theorem inhibitAsserted : Statement (.inhibitAsserted) := of_none rfl

theorem inhibitReleased : Statement (.inhibitReleased) := of_none rfl

theorem markerSample (high : Bool) : Statement (.markerSample high) := of_none rfl

theorem markerRisingEdge : Statement (.markerRisingEdge) := of_none rfl

theorem pulseDecode (channel : TachoName) (levels : Pair) : Statement (.pulseDecode channel levels) := of_none rfl

theorem odometrySlot : Statement (.odometrySlot) := of_none rfl

theorem tachoFailed (channel : TachoName) : Statement (.tachoFailed channel) := of_none rfl

theorem plannerComputation : Statement (.plannerComputation) := of_none rfl

theorem telemetryCountdown : Statement (.telemetryCountdown) := of_none rfl

theorem targetListArrival : Statement (.targetListArrival) := of_none rfl

theorem lineCycle : Statement (.lineCycle) := of_none rfl

theorem frameEcho (matched : Bool) : Statement (.frameEcho matched) := of_none rfl

theorem lineHalt : Statement (.lineHalt) := of_none rfl

theorem stat (address : Nat) (angle : Int) (condition : NodeCond) (flags : NodeFlags) (acceleration : Option Int) :
    Statement (.stat address angle condition flags acceleration) := of_none rfl

theorem tracking (car : Nat) : Statement (.tracking car) := of_none rfl

theorem replySilence : Statement (.replySilence) := of_none rfl

theorem nodeLost (car : Nat) : Statement (.nodeLost car) := of_none rfl

theorem mrsp (address : Nat) (accepted : Bool) (value : Half) : Statement (.mrsp address accepted value) :=
    of_none rfl

theorem claimRound (outcome : ClaimOutcome) : Statement (.claimRound outcome) := of_none rfl

theorem musterEnd : Statement (.musterEnd) := of_none rfl

theorem contentionKey (key : WindowKey) : Statement (.contentionKey key) := of_none rfl

theorem alrt (address : Nat) (kind : AlertKind) (detail : Half) : Statement (.alrt address kind detail) := of_none rfl

theorem frameEnd : Statement (.frameEnd) := of_none rfl

theorem gap : Statement (.gap) := of_none rfl

theorem frameSent (pins : Pins) : Statement (.frameSent pins) := of_none rfl

theorem characterReceived (data : Byte) (parity stop : Bool) : Statement (.characterReceived data parity stop) :=
    of_none rfl

theorem characterTaken : Statement (.characterTaken) := of_none rfl

theorem rxdIdleLevel : Statement (.rxdIdleLevel) := of_none rfl

theorem resetNAsserted : Statement (.resetNAsserted) := of_none rfl

end Sys2Proof.Laws.BodyFits
end

