-- ==== Sys2Proof/Tests/Slice0.lean ====
section
/-! SUPPORT. Tests against the worked examples of the manual, the refusals of ill-formed commands, and for every
statement with hypotheses a witness that meets them. -/

namespace Sys2Proof.Tests

open Sys2Proof Sys2Proof.Machine

-- One theorem after another: side by side, their kernel evaluations hold a thread each.
set_option Elab.async false

/-! ## Helpers -/

/-- The state a command answers. -/
def after (c : Instr) (s : State) : State :=
  match exec c s with
  | .next t => t
  | .fault _ => s
  | .refused _ => s

/-- The body of the reply that a command leaves in the reply slot. -/
def replyBody (c : Instr) (s : State) : List Byte := ((after c s).link.reply.map Frame.body).getD []

/-- A fact about every entry of a list holds of the entry at each place. -/
theorem at_place {α : Type} {l : List α} {P : Nat → α → Prop} (h : ∀ p ∈ l.zipIdx, P p.2 p.1) :
    ∀ k x, l[k]? = some x → P k x :=
  fun k x e => h (x, k) (List.mem_zipIdx_iff_getElem?.2 e)

/-- `Running` as a test of the state. -/
def runs (s : State) : Bool :=
  !s.inReset && (s.link.sending.isSome || (s.link.reply.isNone && s.link.completions.isEmpty &&
    noticeOrder.all (fun k => !(s.link.notices.get k).pending)))

theorem running_iff (s : State) : Running s ↔ runs s = true := by
  cases h : s.link.sending <;> simp [Running, Settled, runs, h, and_assoc]

theorem linkFree_iff (s : State) : LinkFree s ↔ (runs s && s.link.slot.isNone && isReady s) = true := by
  simp [LinkFree, isReady, running_iff, and_assoc]

/-! ## The six-car set (worked example of the chapter on train formation) -/

def plain (i : Byte) (f r : Half) : CarWire :=
  { index := i, tilting := 0, sensing := 0, rsv3 := 0, serial := 0, front := f, rear := r, lead := 0, rsv14 := 0,
    rsv15 := 0 }

def trailer (i sensing : Byte) (serial : Word) (f r lead : Half) : CarWire :=
  { plain i f r with tilting := 1, sensing := sensing, serial := serial, lead := lead }

/-- The records of the example with the rear offset of car 3 and the serial of car 4 given. -/
def setOf (rear3 : Half) (serial4 : Word) : List CarWire :=
  [plain 0 0 1400, trailer 1 0 40017211 3100 5000 300, trailer 2 0 40017302 5200 7100 300,
   trailer 3 1 40017388 7100 rear3 300, trailer 4 0 serial4 9200 11100 350, plain 5 12500 13900]

def sixRecords : List CarWire := setOf 9000 40017455

/-- The machine after reset and its first event, the MODE notice on its way. -/
def started : State := chooseIfIdle State.reset

/-- SETUP with the six-car set, the line OFF, the transmitter busy. -/
def six : State := loadFormation (sixRecords.map carOfWire) started

/-- A state whose transmitter is idle, with nothing waiting. -/
def idle (s : State) : State := { s with link := { s.link with sending := none, notices := .clear } }

/-- Both straps at the levels given, the tachometer lines low. -/
def strapped (rate1 rate0 : Bool) : Pins := { Pins.low with straps := ⟨rate1, rate0⟩ }

/-- A channel whose node is bound, has reported READY at 120 mdeg and stands at centre. -/
def fit (c : Channel) : Channel :=
  if c.state = .notFitted then c else { c with state := .centred, angle := some 120, cond := some .ready }

/-- SETUP with the line CYCLING, cars 1 to 4 bound and CENTRED, a spare node at address 15, the inhibit released. -/
def cycling : State :=
  ({ six with
      ctl := { six.ctl with inhibit := false, latch := false }
      chans := six.chans.map fit
      line := { six.line with
        state := .cycling
        nodes := six.cars.map (fun c : Car => { serial := c.node.map CarNode.serial, miss := 0 })
        foreign := { six.line.foreign with at15 := some 39800004 } } }).reevaluate

def standby : State := setMode .standby cycling

/-- Segments T and A of the planner's worked example. -/
def segT : Segment :=
  { start := 990000, length := 10000, curveStart := 0, curveStop := 1000, cantStart := 0, cantStop := 150, cap := none }

def segA : Segment :=
  { start := 1000000, length := 40000, curveStart := 1000, curveStop := 1000, cantStart := 150, cantStop := 150,
    cap := none }

def fast : List Int := List.replicate 10 500000

/-- STANDBY with a run at P = 1,000,000 and v = 5,000 on segments T and A. -/
def running : State :=
  let t := beginRun 1000000 standby
  { t with
    odo := { t.odo with window := fast, tachoA := { t.odo.tachoA with window := fast },
                        tachoB := { t.odo.tachoB with window := fast } }
    geo := { t.geo with committed := [segT, segA] } }

/-- A channel FOLLOWING at an angle and a step, the set-point sent. -/
def follow (theta step : Int) (c : Channel) : Channel :=
  { c with state := .following, theta := theta, step := step, sent := theta, angle := some theta }

/-- ACTIVE, cars 1 to 4 FOLLOWING in the transition (worked example of a car failing mid-curve, car 2 one pass
earlier). -/
def moving : State :=
  let t := enterActive running
  ({ t with chans := ((((t.chans.modify 1 (follow 4190 100)).modify 2 (follow 2990 96)).modify 3
      (follow 1960 60)).modify 4 (follow 900 30)) }).reevaluate

/-- The thirteen samples of the worked example of queries for three cars. -/
def samples : List Sample :=
  [⟨999400, 500⟩, ⟨999450, 540⟩, ⟨999500, 580⟩, ⟨999550, 610⟩, ⟨999600, 650⟩, ⟨999650, 700⟩, ⟨999700, 720⟩,
   ⟨999750, 760⟩, ⟨999800, 790⟩, ⟨999850, 800⟩, ⟨999900, 820⟩, ⟨999950, 830⟩, ⟨1000000, 845⟩]

/-- Trust lost at P = 1,007,100 (worked example of the reactive method). -/
def tunnel : State :=
  { moving with ring := samples, odo := { moving.odo with pos := 1007100, trust := false, u := 30000000 } }

/-- The state of the worked example of a capture corrected. -/
def matched : State :=
  { running with
    odo := { running.odo with
      pos := 1212400, u := 4118600, captures := [⟨4, 1196800, 4950⟩, ⟨5, 1204310, 4980⟩, ⟨6, 1209000, 5000⟩],
      nextNumber := some 7 }
    ring := [⟨1198020, 300⟩, ⟨1205300, 410⟩] }

def segment (start length curveStart curveStop cantStart cantStop : Int) (cap : Option Int) : Segment :=
  { start := start, length := length, curveStart := curveStart, curveStop := curveStop, cantStart := cantStart,
    cantStop := cantStop, cap := cap }

/-- The tail of the route of the worked example of cutting the route at a junction. -/
def junction : State :=
  { running with
    odo := { running.odo with pos := 2000000 }
    geo := { running.geo with committed :=
      [segment 2050000 30000 500 500 50 50 none, segment 2080000 40000 500 1500 50 150 (some 6000),
       segment 2120000 60000 1500 1500 150 150 (some 6000), segment 2180000 25000 1500 0 150 0 none] } }

/-- A segment record as a request carries it. -/
def offered (start length : Word) : SegmentWire :=
  { start := start, length := length, curveStart := 0, curveStop := 0, cantStart := 0, cantStop := 0,
    cap := 0xFFFF, rsv18 := 0, rsv19 := 0 }

/-- The state of the worked example of a batch refused for a gap, before its close (one committed record). -/
def gapped : State :=
  { running with
    geo := { running.geo with
      committed := [segment 1020000 430000 0 0 0 0 none]
      batch := some { declared := 1452000, staged :=
        [segment 1452000 18000 0 0 0 0 none, segment 1470000 15000 0 0 0 0 none,
         segment 1485000 40000 0 0 0 0 none] } } }

/-- The defaults as a request offers them. -/
def defaultValues : Vector Word 28 :=
  #v[1500, 650, 500, 8000, 5000, 10000, 3000, 1100, 1500, 1000, 50, 4, 30, 2800, 2800, 140, 140, 500, 1, 5000,
     300000, 800000, 20000, 200000, 2500, 25, 300, 0]

/-- The values of the worked example of replacing the parameter set, with uResume given. -/
def newValues (uResume : Word) : Vector Word 28 :=
  ((((defaultValues.set 4 7500).set 5 12000).set 8 1200).set 9 uResume).set 13 2750

/-- An exchange on the line of a state. -/
def withExch (s : State) (x : Exchange) : State := { s with line := { s.line with exch := x } }

/-- The RollCall of the worked example of a muster, opened on the six-car set with the round given. -/
def muster (round : Nat) (x : Exchange) : State :=
  { six with line := { six.line with state := .mustering, muster := some { tag := 0x30, round := round }, exch := x } }

/-! ## Ill-formed commands are refused (WellFormed) -/

theorem test_wellFormed_setFormation :
    (Instr.setFormation 0 16 0 0 0 (List.replicate 15 (plain 0 0 0))).wellFormed = true ∧
    (Instr.setFormation 0 16 0 0 0 (List.replicate 16 (plain 0 0 0))).wellFormed = false := by decide +kernel

theorem test_wellFormed_addSegments :
    (Instr.addSegments 0 12 0 0 0 (List.replicate 12 (offered 0 0))).wellFormed = true ∧
    (Instr.addSegments 0 13 0 0 0 (List.replicate 13 (offered 0 0))).wellFormed = false := by decide +kernel

theorem test_wellFormed_unknownKind :
    (Instr.unknownKind 0x7F 0 (List.replicate 248 0)).wellFormed = true ∧
    (Instr.unknownKind 0x7F 0 (List.replicate 249 0)).wellFormed = false ∧
    (Instr.unknownKind 0x01 0 []).wellFormed = false := by decide +kernel

theorem test_wellFormed_stat :
    (Instr.stat 0 0 .ready noNodeFlags none).wellFormed = false ∧
    (Instr.stat 15 0 .ready noNodeFlags none).wellFormed = true ∧
    (Instr.stat 16 0 .ready noNodeFlags none).wellFormed = false := by decide +kernel

theorem test_wellFormed_mrsp : (Instr.mrsp 0 true 0).wellFormed = false ∧ (Instr.mrsp 16 true 0).wellFormed = false :=
  by decide

theorem test_wellFormed_alrt :
    (Instr.alrt 0 .note 0).wellFormed = false ∧ (Instr.alrt 16 .note 0).wellFormed = false := by decide

theorem test_wellFormed_contentionKey :
    (Instr.contentionKey (.alert 0)).wellFormed = false ∧ (Instr.contentionKey (.alert 16)).wellFormed = false := by
  decide

theorem test_wellFormed_tracking : (Instr.tracking 11).wellFormed = true ∧ (Instr.tracking 12).wellFormed = false := by
  decide

theorem test_wellFormed_nodeLost : (Instr.nodeLost 11).wellFormed = true ∧ (Instr.nodeLost 12).wellFormed = false := by
  decide

/-! ## Frames and the link -/

/-- R174: the CRC of the nine digits 1 to 9 is 0x29B1. -/
theorem test_crc16_digits :
    crc16 [0x31, 0x32, 0x33, 0x34, 0x35, 0x36, 0x37, 0x38, 0x39] = 0x29B1#16 := by decide +kernel

/-- R188, R190: the body of the worked example of two replies, read byte by byte. -/
theorem test_decode_resolveCapture :
    decodeFrame { kind := 0x18, tag := 0x21, body := [5, 0, 0, 0, 0x1A, 0x60, 0x12, 0] } =
      .request (.resolveCapture 5 0 0 1204250) := by decide +kernel

/-- R176, check 2: a body one byte short. -/
theorem test_decode_badLength :
    decodeFrame { kind := 0x18, tag := 0x21, body := [5, 0, 0, 0, 0x1A, 0x60, 0x12] } = .badLength := by decide

/-- No row of the opcode table gives bits, so no word spells a command. -/
theorem test_decodeTableWord_none : decodeTableWord 8 1 = none := rfl

theorem test_unknownKind_answered :
    (after (.unknownKind 0x7F 9 []) six).link.reply = some { kind := 0xFF, tag := 9, body := [1, 0, 0, 0] } := by
  decide +kernel

/-- Worked example of a burst of requests: the third good frame is refused. -/
theorem test_third_request_refused :
    let s := after (.queryGeometry 9) (after (.rollCall 8) (after (.queryPosition 7) standby))
    s.link.slot = some { kind := 0x30, tag := 8, body := [] } ∧ s.link.refused = 1 := by decide +kernel

/-- Worked example of a burst of requests: the RollCall is handed over when the reply leaves the reply slot. -/
theorem test_frameSent_hands_over :
    let s := after (.frameSent Pins.low) (after (.rollCall 8) (after (.queryPosition 7) standby))
    s.link.slot = none ∧ s.link.reply = none ∧ s.line.state = .mustering := by decide +kernel

/-- R185: whatever event comes first, the first frame after reset is MODE with the flag RESET; a reply follows it. -/
theorem test_first_frame_after_reset :
    let mode := some (frameChars { kind := 0x60, tag := 0, body := [1, 0, 0, 1, 1, 0] })
    (after (.frameSent Pins.low) State.reset).link.sending = mode ∧
    (after (.identify 7) State.reset).link.sending = mode ∧
    (after (.identify 7) State.reset).link.reply.map Frame.tag = some 7 ∧
    (after (.frameSent Pins.low) (after (.identify 7) State.reset)).link.reply = none := by decide +kernel

/-- R170: 0xC5 has four ones, so its parity bit is 0; 0x07 has three, so it is 1. The start bit is bit 0. -/
theorem test_charBits : charBits 0xC5 = 0b10110001010#11 ∧ charBits 0x07 = 0b11000001110#11 := by decide +kernel

/-- R180: an idle transmitter sends a reply at once, and goes idle when nothing follows. -/
theorem test_idle_transmitter :
    let s := after (.closeBatch 7 3) (idle gapped)
    s.link.reply = none ∧
      s.link.sending = some (frameChars { kind := 0xA2, tag := 7, body := [7, 8, 0, 0, 3, 0, 0, 0] }) ∧
      (after (.frameSent Pins.low) s).link.sending = none := by decide +kernel

/-- R181, R182: an idle transmitter sends a notice at once, with its flags as they stand at the end of the event. -/
theorem test_idle_notice :
    let s := after (.markerSample true) (idle { running with odo := { running.odo with markerCount := 2 } })
    s.link.notices.position = .clear ∧ s.link.sending.isSome = true := by decide +kernel

/-- R36: the accepted Reset takes effect once its reply has gone, with the straps as they then stand. -/
theorem test_reset_takes_effect :
    let s := after (.frameSent (strapped true false)) (after (.frameSent Pins.low) (after (.reset 1) moving))
    s.cars = [] ∧ s.ctl.mode = .setup ∧ s.ctl.rateCode = 2 := by decide +kernel

/-- R171: a zero with parity 1 carries the parity mark alone. -/
theorem test_characterReceived_parity :
    (after (.characterReceived 0 true true) (after .rxdIdleLevel State.reset)).link.fifo =
      [{ data := 0, parity := true, framing := false, overrun := false, gap := false }] := by decide +kernel

/-- R171: after a break nothing is decoded until the idle level. -/
theorem test_characterReceived_break :
    (after (.characterReceived 0xC5 false true)
      (after (.characterReceived 0 false false) (after .rxdIdleLevel State.reset))).link.fifo.length = 1 := by
  decide +kernel

/-- R173: LENGTH 251 is outside 2 to 250. -/
theorem test_characterTaken_length :
    (after .characterTaken
      { State.reset with link := { State.reset.link with asm := .length, fifo := [cleanChar 251] } }).link.bad = 1 := by
  decide +kernel

/-- R174: the last character of an Identify frame ends it good. -/
theorem test_frameEnd_good :
    let crc := crc16 [2, 1, 7]
    (after .frameEnd { State.reset with link := { State.reset.link with
        asm := .collect [2, 1, 7, crc.extractLsb' 0 8] 1 false, fifo :=
          [cleanChar (crc.extractLsb' 8 8)] } }).link.reply.map
      Frame.kind = some 0x81#8 := by decide +kernel

/-- Worked example of three frames with faults: a gap in COLLECT with an empty FIFO counts a broken frame. -/
theorem test_gap_broken :
    (after .gap { State.reset with link := { State.reset.link with
        waitIdle := false, gapRunning := true, asm := .collect [8, 1, 2] 7 false } }).link.broken = 1 :=
          by decide +kernel

/-- R184: a period above 250 is 250. -/
theorem test_setReporting_ceiling : replyBody (.setReporting 0 1000) six = [0, 0, 0, 0, 250, 0, 0, 0] := by
  decide +kernel

/-- R183: without a formation no telemetry is raised, whatever period SetReporting has set. -/
theorem test_telemetryCountdown_formation :
    let s := after (.setReporting 0 1) started
    s.link.period = 1 ∧ s.cars = [] ∧ (after .telemetryCountdown s).link = s.link := by decide +kernel

/-- R183: the first raise comes at the Nth report. -/
theorem test_telemetryCountdown :
    let s := after .telemetryCountdown { six with link := { six.link with period := 2, countdown := 2 } }
    s.link.notices.telemetry.pending = false ∧
    (after .telemetryCountdown s).link.notices.telemetry.pending = true := by decide +kernel

/-! ## Formation and parameters -/

/-- Worked example of the six-car set: the first SetFormation is refused RANGE at car 3. -/
theorem test_setFormation_range :
    replyBody (.setFormation 0 6 0 0 0 (setOf 10200 40017302)) State.reset = [3, 18, 3, 0] := by decide +kernel

/-- With the rear offset corrected alone, SERIAL fails at car 4. -/
theorem test_setFormation_serial :
    replyBody (.setFormation 0 6 0 0 0 (setOf 9000 40017302)) State.reset = [3, 21, 4, 0] := by decide +kernel

/-- R2: the six-car set has four tilting cars; without a formation there is none. -/
theorem test_tiltingCount : tiltingCount six = 4 ∧ tiltingCount State.reset = 0 := by decide +kernel

/-- R2: tail offset 13,900, largest lead 350, sensing car 3. -/
theorem test_getFormation_figures :
    (replyBody (.getFormation 0) six).take 16 = [0, 0, 0, 0, 6, 3, 0, 0, 0x4C, 0x36, 0, 0, 0x5E, 1, 0, 0] := by
  decide +kernel

/-- Worked example of replacing the parameter set: uResume 1,300 fails the second pass as field 10. -/
theorem test_setParameters_cross : replyBody (.setParameters 0 (newValues 1300)) State.reset = [3, 22, 10, 0] := by
  decide +kernel

/-- Worked example: with uResume 900 the reply carries 150, 4, 19,643 and 20,000. -/
theorem test_setParameters_derived :
    replyBody (.setParameters 0 (newValues 900)) State.reset =
      [0, 0, 0, 0, 150, 0, 4, 0, 0xBB, 0x4C, 0, 0, 0x20, 0x4E, 0, 0] := by decide +kernel

/-- R16: after reset GetParameters ends with 100, 4, 20,000 and 20,000. -/
theorem test_getParameters_defaults :
    (replyBody (.getParameters 0) State.reset).drop 116 = [100, 0, 4, 0, 0x20, 0x4E, 0, 0, 0x20, 0x4E, 0, 0] := by
  decide +kernel

/-! ## Modes, runs and the inhibit -/

/-- R21: without a formation Commission is refused NO_FORMATION. -/
theorem test_commission : replyBody (.commission 0) State.reset = [7, 1, 0, 0] ∧
    replyBody (.commission 0) six = [0, 0, 0, 0, 1, 0, 0, 0] := by decide +kernel

theorem test_returnToSetup_admission :
    replyBody (.returnToSetup 0) running = [4, 0, 0, 0] ∧ (after (.returnToSetup 0) standby).ctl.mode = .setup := by
  decide +kernel

/-- R23, R187: an origin of −1 is answered in two's complement. -/
theorem test_startRun_origin : replyBody (.startRun 0 (-1)) standby = [0, 0, 0, 0, 1, 1, 0, 0, 255, 255, 255, 255] := by
  decide +kernel

/-- R23: an origin beyond 2,000,000,000 is refused BAD_VALUE. -/
theorem test_startRun_range : replyBody (.startRun 0 2000000001) standby = [3, 0, 0, 0] := by decide +kernel

theorem test_endRun_empties :
    let s := after (.endRun 0) matched
    s.odo.captures = [] ∧ s.ring = [] ∧ s.geo.committed = [] ∧ s.odo.pos = 1212400 ∧ s.odo.nextNumber = some 7 := by
  decide +kernel

/-- Worked example of inhibit against EnableTilt, assertion first: the latch is set and EnableTilt refused INHIBIT. -/
theorem test_inhibit_first :
    let s := after (.inhibitSample true) { running with ctl := { running.ctl with inhibitCount := 2 } }
    s.ctl.mode = .standby ∧ s.ctl.latch = true ∧ replyBody (.enableTilt 0) s = [7, 4, 0, 0] := by decide +kernel

/-- Worked example of inhibit against EnableTilt, EnableTilt first: the acceptance returns the FOLLOWING cars. -/
theorem test_enableTilt_first :
    let s := after .inhibitAsserted moving
    s.ctl.mode = .inhibited ∧ s.ctl.cause = .inhibit ∧ s.chans[1]?.map Channel.state = some .returning ∧
      s.link.notices.mode.pending = true := by decide +kernel

/-- R28: two opposing samples change nothing yet, an equal one clears their count. -/
theorem test_inhibitSample_count :
    (after (.inhibitSample true) (after (.inhibitSample true) running)).ctl.inhibitCount = 2 ∧
    (after (.inhibitSample false) (after (.inhibitSample true) running)).ctl.inhibitCount = 0 := by decide +kernel

/-- R30: the release leaves latch and mode. -/
theorem test_inhibitReleased :
    let s := after .inhibitReleased (after .inhibitAsserted moving)
    s.ctl.mode = .inhibited ∧ s.ctl.latch = true ∧ s.ctl.inhibit = false := by decide +kernel

/-- R27: ResumeTilt clears the latch; the returning cars go on returning. -/
theorem test_resumeTilt :
    let s := after (.resumeTilt 0) (after .inhibitReleased (after .inhibitAsserted moving))
    s.ctl.mode = .active ∧ s.ctl.latch = false ∧ s.chans[1]?.map Channel.state = some .returning := by decide +kernel

/-- R26: the angle and the step are kept. -/
theorem test_disableTilt :
    let s := after (.disableTilt 0) moving
    s.ctl.mode = .standby ∧
      s.chans[1]?.map (fun c : Channel => (c.state, c.theta, c.step)) = some (.returning, 4190, 100) := by
  decide +kernel

/-- R35: RESET_N held low keeps every command out but its own release. -/
theorem test_resetN_held :
    let s := after .resetNAsserted moving
    after (.identify 0) s = s ∧ (after (.resetN (strapped false true)) s).inReset = false ∧
      (after (.resetN (strapped false true)) s).ctl.rateCode = 1 := by decide +kernel

/-- R19: rate code 3 is 921,600 bit/s. -/
theorem test_identify_speed :
    (replyBody (.identify 0) (after (.resetN (strapped true true)) State.reset)).drop 8 =
      [3, 0, 0, 0x10, 0x0E, 0, 12, 8, 8, 4, 0, 1, 32, 0, 0, 4, 0, 0] := by decide +kernel

/-- R20: one NOT_FITTED, ABSENT … count per channel state, two power cars and four CENTRED trailers. -/
theorem test_queryStatus_counts : ((replyBody (.queryStatus 0) standby).drop 14).take 6 = [2, 0, 4, 0, 0, 0] := by
  decide +kernel

/-! ## The odometer -/

/-- The pulse decoder of channel A sees its pair at each of the levels in turn. -/
def pulses (levels : List Pair) (s : State) : State := levels.foldl (fun t l => after (.pulseDecode .a l) t) s

/-- R37: a cycle in which line 1 leads counts +1, one in which it lags −1. -/
theorem test_pulseDecode :
    (pulses [⟨true, false⟩, ⟨true, true⟩, ⟨false, true⟩, ⟨false, false⟩] running).odo.tachoA.increment = 1 ∧
    (pulses [⟨false, true⟩, ⟨true, true⟩, ⟨true, false⟩, ⟨false, false⟩] running).odo.tachoA.increment = -1 := by
  decide +kernel

/-- R37: a reversal before the cycle completes and a change of both lines at once count nothing. -/
theorem test_pulseDecode_none :
    (pulses [⟨true, false⟩, ⟨true, true⟩, ⟨true, false⟩, ⟨false, false⟩] running).odo.tachoA =
      running.odo.tachoA ∧
    (pulses [⟨true, true⟩, ⟨false, false⟩] running).odo.tachoA = running.odo.tachoA := by decide +kernel

/-- R43, example: P = 100, ρ = 3,000 and −5,000 give 99 and 8,000. -/
theorem test_advance_back :
    (advance (-5000) { running.odo with pos := 100, rho := 3000 }).pos = 99 ∧
    (advance (-5000) { running.odo with pos := 100, rho := 3000 }).rho = 8000 := by decide +kernel

/-- Worked example of a slide in a tunnel, slot 2. -/
theorem test_odometrySlot_slide :
    let o := running.odo
    let s := after .odometrySlot { running with odo := { o with
      pos := 3408160, rho := 4000, u := 9872000, tachoA := { o.tachoA with increment := 25 },
      tachoB := { o.tachoB with increment := 31 } } }
    s.odo.pos = 3408210 ∧ s.odo.rho = 4000 ∧ s.odo.u = 9994000 ∧ s.odo.uCm = 1000 ∧ s.odo.trust = true ∧
      s.link.notices.position.flags = flagSlide := by decide +kernel

/-- Worked example of a channel lost at speed, slot 100: B is FAILED and A counted alone. -/
theorem test_odometrySlot_failure :
    let o := running.odo
    let s := after .odometrySlot { running with odo := { o with
      tachoA := { o.tachoA with increment := 25 }, tachoB := { o.tachoB with silent := 99 } } }
    s.odo.tachoB.failed = true ∧ s.odo.pos = 1000050 ∧ s.odo.u = 504000 := by decide +kernel

/-- R40: below 500 cm/s on the other channel nothing fails. -/
theorem test_tachoFailed :
    let at100 (w : List Int) : State :=
      { running with odo := { running.odo with
          tachoA := { running.odo.tachoA with silent := 100 }, tachoB := { running.odo.tachoB with window := w } } }
    (after (.tachoFailed .a) (at100 (List.replicate 10 49999))).odo.tachoA.failed = false ∧
    (after (.tachoFailed .a) (at100 (List.replicate 10 50000))).odo.tachoA.failed = true := by decide +kernel

/-- R49: the third HIGH sample is an accepted edge, captured at P and v. -/
theorem test_markerSample_third :
    (after (.markerSample true) { running with odo := { running.odo with markerCount := 2 } }).odo.captures =
      [⟨1, 1000000, 5000⟩] := by decide +kernel

/-- R52: after capture 65,535 the numbers are exhausted. -/
theorem test_markerRisingEdge_exhausted :
    let s := after .markerRisingEdge { running with odo := { running.odo with nextNumber := some 65535 } }
    s.odo.nextNumber = none ∧
    (after .markerRisingEdge { s with odo := { s.odo with marker := false } }).link.notices.position.flags =
      flagCaptured ||| flagCaptureRefused := by decide +kernel

/-- Worked example of a capture corrected, with the reply of the message formats chapter. -/
theorem test_resolveCapture :
    let s := after (.resolveCapture 0x21 5 0 0 1204250) matched
    s.odo.captures = [⟨6, 1208940, 5000⟩] ∧ s.ring = [⟨1197960, 300⟩, ⟨1205240, 410⟩] ∧
      s.link.notices.position.pending = false ∧ s.link.reply.map Frame.body = some
        [0, 0, 0, 0, 0xC4, 0xFF, 0xFF, 0xFF, 0xB4, 0x7F, 0x12, 0, 50, 0, 0, 0, 1, 1, 0, 0] := by decide +kernel

/-- The same example: 4 is STALE after the fix, 9 NOT_FOUND; the second reserved byte is refused at offset 3. -/
theorem test_resolveCapture_refusals :
    replyBody (.resolveCapture 0 3 0 0 1196760) matched = [9, 0, 0, 0] ∧
    replyBody (.resolveCapture 0 9 0 0 1230000) matched = [8, 0, 0, 0] ∧
    replyBody (.resolveCapture 0x21 5 0 1 1204250) matched = [3, 22, 3, 0] := by decide +kernel

theorem test_queryPosition_head :
    (replyBody (.queryPosition 0) matched).take 20 =
      [0, 0, 0, 0, 1, 1, 7, 0, 0xF0, 0x7F, 0x12, 0, 0, 0, 0x88, 0x13, 0x9C, 1, 0, 0] := by decide +kernel

/-! ## The geometry store and the history ring -/

/-- Worked example of one computation: 630 and 95 at 996,300; a falling curve is rounded away from zero. -/
theorem test_interpolation :
    segT.curve 996300 = 630 ∧ segT.cant 996300 = 95 ∧ (segment 0 100 0 (-10) 0 0 none).curve 25 = -3 := by
  decide +kernel

/-- R68: a batch opened over another discards its records. -/
theorem test_openBatch_discards : replyBody (.openBatch 0 5) gapped = [0, 0, 0, 0, 1, 3, 0, 0] := by decide +kernel

/-- R69: the third record's length fails as field 2. -/
theorem test_addSegments_field :
    replyBody (.addSegments 0 3 0 0 0 [offered 0 100, offered 100 100, offered 200 99]) gapped = [3, 22, 2, 2] := by
  decide +kernel

theorem test_addSegments_staged :
    replyBody (.addSegments 0 1 0 0 0 [offered 1525000 500000]) gapped = [0, 0, 0, 0, 4, 0, 0, 0] := by decide +kernel

/-- Worked example of a batch refused for a gap. -/
theorem test_closeBatch_gap :
    replyBody (.closeBatch 0 3) gapped = [7, 8, 0, 0, 3, 0, 0, 0] ∧
      (after (.closeBatch 0 3) gapped).geo.batch = none := by
  decide +kernel

/-- Worked example of cutting the route: 2,015,000 lies before the protected limit 2,021,750. -/
theorem test_truncate_protected :
    replyBody (.truncateGeometry 0 2015000) junction = [7, 11, 0, 0, 0x76, 0xD9, 0x1E, 0] := by decide +kernel

/-- Worked example of cutting the route at 2,100,000: record b is shortened. -/
theorem test_truncate_cut :
    (after (.truncateGeometry 0 2100000) junction).geo.committed =
      [segment 2050000 30000 500 500 50 50 none, segment 2080000 20000 500 1000 50 100 (some 6000)] ∧
    (replyBody (.truncateGeometry 0 2100000) junction).take 8 = [0, 0, 0, 0, 2, 0, 1, 1] := by decide +kernel

theorem test_queryGeometry_counts :
    ((replyBody (.queryGeometry 0) gapped).drop 4).take 12 = [1, 1, 1, 1, 1, 0, 0xFF, 0, 3, 1, 0, 0] :=
      by decide +kernel

/-- Example of the release: the record that ends at 1,000,000 goes, the one that ends at 1,005,000 stays. -/
theorem test_release :
    ((releaseSegments { running with
        odo := { running.odo with pos := 1020000 }
        geo := { running.geo with committed :=
          [segment 990000 10000 0 0 0 0 none, segment 1000000 5000 0 0 0 0 none] } }).geo.committed.map Segment.start) =
      [1000000] := by decide +kernel

/-- Worked example of queries for three cars. -/
theorem test_meanAt :
    meanAt 1004550 500 samples = some 736 ∧ meanAt 999720 500 samples = some 614 ∧
      meanAt 998700 500 samples = none := by
  decide +kernel

/-- Worked example of standstill and roll-back: the sample beyond the new position goes, 9,300 is clamped. -/
theorem test_takeSample :
    let at0 (p : Int) (r : List Sample) : State := { running with odo := { running.odo with pos := p }, ring := r }
    (takeSample (some (-20)) (at0 1007120 [⟨1000000, 655⟩, ⟨1000050, 610⟩])).ring = [⟨1000000, 655⟩, ⟨1000020, -20⟩] ∧
    (takeSample (some 9300) (at0 1007130 [⟨1000020, -20⟩])).ring = [⟨1000020, -20⟩, ⟨1000030, 8000⟩] := by
  decide +kernel

/-! ## The planner, the channels and the limiter -/

/-- Worked example of one computation in a transition. -/
theorem test_plannerComputation_pred :
    (after .plannerComputation moving).plan.delivered =
      some [⟨0, .none⟩, ⟨4295, .pred⟩, ⟨3095, .pred⟩, ⟨1986, .pred⟩, ⟨923, .pred⟩, ⟨0, .none⟩] := by decide +kernel

/-- Worked example of trust lost and the reactive method. -/
theorem test_plannerComputation_react :
    (after .plannerComputation tunnel).plan.delivered =
      some [⟨0, .none⟩, ⟨2150, .react⟩, ⟨2150, .react⟩, ⟨2150, .react⟩, ⟨0, .none⟩, ⟨0, .none⟩] := by decide +kernel

/-- Worked example of the envelope: cars 0, 2 and 5 pinned at 0 clamp car 1 to 3,000; with car 2 RETURNING at 6,000
and car 4 FAILED, adjacentMax 2,000 puts car 3 midway at 3,000. -/
theorem test_envelope :
    let s1 := { moving with
      params := { moving.params with faultPolicy := .isolated }
      chans := moving.chans.modify 2 (fun c => c.toFailed .nodeFault) }
    let s2 := { s1 with
      params := { s1.params with adjacentMax := 2000 }
      chans := (moving.chans.modify 2 (fun c => { c with state := .returning, theta := 6000 })).modify 4
        (fun c => c.toFailed .nodeFault) }
    boundTarget s1 1 4295 = 3000 ∧ boundTarget s1 4 923 = 923 ∧ boundTarget s2 3 1986 = 3000 := by decide +kernel

/-- Worked example of the route running out: car 1's front position reaches the committed end 1,200,000 at P =
1,201,600. -/
theorem test_exhaustion :
    let at0 (p : Int) : State :=
      { moving with odo := { moving.odo with pos := p }
                    geo := { moving.geo with committed := [segment 1100000 100000 0 0 0 0 none] } }
    (testExhaustion (at0 1201500)).plan.exhausted = false ∧ (testExhaustion (at0 1201600)).plan.exhausted = true := by
  decide +kernel

/-- Worked example of one pass: car 2 from 2,990 and 96 toward 3,095. -/
theorem test_targetListArrival :
    (after .targetListArrival (after .plannerComputation moving)).chans[2]?.map (fun c : Channel => (c.theta, c.step)) =
      some (3082, 92) := by decide +kernel

/-- Worked example of returning to centre: passes 6 to 9. -/
theorem test_limiter_returning :
    let pass (theta step : Int) : Int × Int :=
      (fun c => (c.theta, c.step)) (limiterPass .defaults 0 { Channel.ofCar (carOfWire (plain 0 0 1)) with
        theta := theta, step := step })
    pass 40 8 = (44, 4) ∧ pass 20 (-12) = (10, -10) ∧ pass 10 (-10) = (3, -7) ∧ pass 3 (-7) = (0, -3) ∧
      pass 0 (-3) = (0, 0) := by decide +kernel

/-- Worked example of the angle limit, pass 1. -/
theorem test_limiter_clamp :
    let c := limiterPass .defaults 8000 { Channel.ofCar (carOfWire (plain 0 0 1)) with theta := 7950, step := 100 }
    c.theta = 8000 ∧ c.step = 50 := by decide +kernel

/-- Worked example of a car failing mid-curve: cleared, the car is CENTRED and the reply names ALERT. -/
theorem test_clearCarFault :
    let s := { moving with chans := moving.chans.modify 2 (fun c => { c.toFailed .alert with angle := some 120 }) }
    replyBody (.clearCarFault 0 2) s = [0, 0, 0, 0, 16, 4, 0, 0] ∧
    (after (.clearCarFault 0 2) s).chans[2]?.map Channel.state = some .centred := by decide +kernel

/-- R137: the checks before NODE_FAULT, in order. -/
theorem test_clearCarFault_refusals :
    replyBody (.clearCarFault 0 6) moving = [3, 0, 0, 0] ∧ replyBody (.clearCarFault 0 2) moving = [7, 12, 0, 0] := by
  decide +kernel

/-- R138: the set-point 4,190 and the step 100 of car 1. -/
theorem test_queryCar :
    ((replyBody (.queryCar 0 1) moving).drop 12).take 6 = [0x5E, 0x10, 100, 0, 0x5E, 0x10] ∧
    replyBody (.queryCar 0 6) moving = [3, 0, 0, 0] := by decide +kernel

/-! ## The car line -/

/-- R153: the SET frame carries car 1's set-point at address 2 and "centre" at address 1. -/
theorem test_lineCycle :
    let s := after .lineCycle moving
    s.line.exch = .echo (.set ([none, some 4190, some 2990, some 1960, some 900] ++ List.replicate 10 none)) := by
  decide +kernel

/-- The first address asked is 2, and 15 follows 5 (R154). -/
theorem test_askOrder : nextAsked moving 0 = some 2 ∧ nextAsked moving 5 = some 15 ∧ nextAsked moving 15 = none := by
  decide +kernel

/-- R131, R145: the angle is clamped, the flags gather, the next node is asked. -/
theorem test_stat :
    let s := after (.stat 2 13000 .ready { noNodeFlags with clipped := true } none) (withExch moving (.stat 2))
    s.line.exch = .echo (.ask 3) ∧ s.chans[1]?.map (fun c : Channel => (c.angle, c.flags.clipped, c.trackCount)) =
      some (some 12000, true, 1) := by decide +kernel

/-- R131: NOT_READY returns a FOLLOWING car. -/
theorem test_stat_notReady :
    (after (.stat 2 4190 .notReady noNodeFlags none) (withExch moving (.stat 2))).chans[1]?.map Channel.state =
      some .returning := by decide +kernel

/-- R132: the count reaches trackLimit 25, and the car fails. -/
theorem test_tracking :
    let at0 (n : Nat) : State :=
      { moving with chans := moving.chans.modify 1 (fun c => { c with angle := some 0, trackCount := n }) }
    (after (.tracking 1) (at0 23)).chans[1]?.map Channel.state = some .following ∧
    (after (.tracking 1) (at0 24)).chans[1]?.map Channel.firstFault = some (some .tracking) := by decide +kernel

/-- Worked example of a node restart: the silent ASK counts 1, the silent MREQ completes NO_ANSWER. -/
theorem test_replySilence :
    let queued := { moving with line := { moving.line with maint := [⟨3, false, 17, 0, 41⟩] } }
    (after .replySilence (withExch queued (.stat 4))).line.nodes[3]?.map NodeLink.miss = some 1 ∧
    (after .replySilence (withExch queued .mrsp)).link.completions =
      [{ kind := 0xB1, tag := 41, body := [12, 0, 0, 0, 0, 0, 0, 0] }] := by decide +kernel

theorem test_nodeLost :
    let s := after (.nodeLost 3) moving
    isBound s 3 = false ∧ s.chans[3]?.map Channel.firstFault = some (some .nodeLost) ∧
      s.chans[1]?.map Channel.state = some .returning := by decide +kernel

/-- R88, R141: the sensing car's node is lost while its ASK is on the line; the STAT that follows reaches neither the
channel nor the ring. -/
theorem test_stat_after_loss :
    let s := after (.frameEcho true) (after (.nodeLost 3) (withExch tunnel (.echo (.ask 4))))
    let t := after (.stat 4 100 .ready noNodeFlags (some 50)) s
    s.line.exch = .stat 4 ∧ t.ring = samples ∧ t.chans = s.chans ∧ t.line.exch = .echo (.ask 5) := by decide +kernel

theorem test_mrsp_done :
    (after (.mrsp 4 true 0x1234)
      (withExch { moving with line := { moving.line with maint := [⟨3, false, 17, 0, 41⟩] } } .mrsp)).link.completions =
      [{ kind := 0xB1, tag := 41, body := [10, 0, 0, 0, 0x34, 0x12, 0, 0] }] := by decide +kernel

/-- R165: a READ with a value is out of range; a car that is not bound is refused UNBOUND. -/
theorem test_nodeTransfer :
    replyBody (.nodeTransfer 0 3 0 17 0 1) moving = [3, 0, 0, 0] ∧
    replyBody (.nodeTransfer 0 0 0 17 0 0) moving = [7, 13, 0, 0] ∧
    (after (.nodeTransfer 41 3 0 17 0 0) moving).line.maint = [⟨3, false, 17, 0, 41⟩] := by decide +kernel

/-- Worked example of a muster, rounds 1 and 2. -/
theorem test_claimRound :
    (after (.claimRound (.claim 39800004)) (muster 1 .round)).line.exch = .echo (.name 39800004 15) ∧
    (after (.claimRound (.claim 40017211)) (muster 2 .round)).line.exch = .echo (.name 40017211 2) := by decide +kernel

/-- R150: a garbled 24th round ends the muster with OVERFULL. -/
theorem test_claimRound_last :
    let s := after (.claimRound .garbled) (muster 24 .round)
    s.line.state = .cycling ∧ s.link.notices.line.flags = flagOverfull := by decide +kernel

/-- R151: the completion of a muster that bound none of the four trailers. -/
theorem test_musterEnd :
    (after .musterEnd (muster 1 .round)).link.completions =
      [{ kind := 0xB0, tag := 0x30, body := [0, 0, 0, 0, 0, 4, 0, 0] }] := by decide +kernel

/-- R148: without a formation NO_FORMATION; on a muster BUSY. -/
theorem test_rollCall :
    replyBody (.rollCall 0) State.reset = [7, 1, 0, 0] ∧ replyBody (.rollCall 0) (muster 1 .round) = [5, 0, 0, 0] := by
  decide +kernel

/-- Worked example of a halt during a cycle: the third mismatch. -/
theorem test_frameEcho_halt :
    let s := after (.frameEcho false)
      { moving with line := { moving.line with exch := .echo (.mreq 2 true 1 1), echoCount := 2, echoTotal := 4,
                                               maint := [⟨1, true, 1, 1, 5⟩, ⟨1, true, 2, 2, 6⟩] } }
    s.line.state = .halted ∧ s.line.echoTotal = 5 ∧ s.ctl.mode = .standby ∧ s.ctl.cause = .lineHalted ∧
      s.link.completions.map Frame.tag = [5, 6] ∧ s.chans[4]?.map Channel.firstFault = some (some .lineHalted) := by
  decide +kernel

/-- R146: a mismatched ASK counts no miss and the next node is asked. -/
theorem test_frameEcho_mismatch :
    let s := after (.frameEcho false) (withExch moving (.echo (.ask 2)))
    s.line.exch = .echo (.ask 3) ∧ s.line.nodes = moving.line.nodes ∧ s.line.echoCount = 1 := by decide +kernel

theorem test_lineHalt :
    (after .lineHalt moving).line.state = .halted ∧ (after .lineHalt six).line.state = .off := by decide +kernel

/-- Worked example of a node restart: the join of bound car 3. -/
theorem test_contentionKey_restart :
    let s := after (.contentionKey (.join 40017388)) (withExch moving .window)
    s.line.exch = .echo (.name 40017388 4) ∧ isBound s 3 = false ∧
      s.chans[3]?.map Channel.firstFault = some (some .nodeRestart) := by decide +kernel

/-- Worked example of a car failing mid-curve: the ACTUATOR alert is taken, kept once TAKE is delivered, and fails car
2. -/
theorem test_alrt_taken :
    let s := after (.frameEcho true) (after (.alrt 3 .actuator 7) (withExch moving (.alrt 3)))
    s.line.alerts = [⟨2, .actuator, 7, 1000000⟩] ∧ s.link.notices.alerts.pending = true ∧
      s.chans[2]?.map Channel.firstFault = some (some .alert) := by decide +kernel

theorem test_readAlerts :
    replyBody (.readAlerts 0) { moving with line := { moving.line with alerts := [⟨2, .note, 0x0102, 5⟩] } } =
      [0, 0, 0, 0, 1, 0, 0, 0, 2, 5, 2, 1, 5, 0, 0, 0] := by decide +kernel

/-! ## Witnesses: the laws and the machine -/

/-- Whether a result is a next state. -/
def answersNext (r : Result) : Bool :=
  match r with
  | .next _ => true
  | .fault _ => false
  | .refused _ => false

theorem next_after {c : Instr} {s : State} (h : answersNext (exec c s) = true) : exec c s = .next (after c s) := by
  unfold after
  cases e : exec c s <;> simp_all [answersNext]

/-- ACTIVE over a long run: samples, a capture, an open batch, a transfer, an alert, characters and a command waiting.
-/
def busy : State :=
  { tunnel with
    pending := [.frameEcho false, .gap]
    odo := { tunnel.odo with captures := [⟨4, 996800, 4950⟩], nextNumber := some 5 }
    geo := { tunnel.geo with batch := some { declared := 1040000, staged := [segment 1040000 100 0 0 0 0 (some 0)] } }
    line := { tunnel.line with exch := .echo (.ask 2), maint := [⟨3, false, 17, 0, 41⟩],
                               alerts := [⟨2, .note, 7, 999000⟩] }
    link := { tunnel.link with asm := .collect [8, 1] 9 true, fifo := [cleanChar 5], period := 5, countdown := 5 } }

theorem witness_ModeLaw : ModeLaw busy := by unfold ModeLaw; decide +kernel

/-- The law says something of a state without a run too. -/
theorem witness_RunLaw : RunLaw standby ∧ standby.ctl.run = false ∧ RunLaw busy := by
  unfold RunLaw; decide +kernel

theorem witness_ChannelLaw : ChannelLaw busy :=
  ⟨by decide +kernel, by decide +kernel, by decide +kernel, by decide +kernel, by decide +kernel,
    (by decide +kernel : ∀ c ∈ busy.chans, ∀ a ∈ c.angle, a.natAbs ≤ 12000)⟩

theorem witness_FaultLaw : FaultLaw busy :=
  (by decide +kernel : ∀ c ∈ busy.chans,
    (c.state = .failed ↔ c.faults ≠ .empty) ∧ (c.state = .failed ↔ c.firstFault.isSome = true) ∧
    (∀ f ∈ c.firstFault, c.faults.has f = true) ∧ (c.unreported = true → c.state = .failed) ∧
    c.trackCount ≤ Config.trackingCeiling)

theorem witness_CentreLaw : CentreLaw busy ∧ CentreLaw standby ∧ standby.ctl.centreOk = true := by
  simp only [centreLaw_iff]; decide +kernel

theorem witness_FormationLaw : FormationLaw busy :=
  ⟨by decide +kernel, (by decide +kernel : ∀ c ∈ busy.cars[0]?, c.front = 0), by decide +kernel,
    (by decide +kernel : ∀ c ∈ busy.cars, ∀ n ∈ c.node, n.lead ≤ 1000), by decide +kernel, by decide +kernel,
    by decide +kernel,
    (by decide +kernel : busy.cars.Pairwise (fun c d => ∀ x ∈ c.node, ∀ y ∈ d.node, x.serial ≠ y.serial)).imp
      (fun h x y hx hy => h x hx y hy)⟩

theorem witness_ParamsLaw : ParamsLaw busy := by unfold ParamsLaw; decide +kernel

theorem witness_TableLaw : TableLaw busy :=
  ⟨by decide +kernel, by decide +kernel, by decide +kernel,
    at_place (P := fun k (c : Channel) => c.state = .notFitted ↔ isTilting busy k = false) (by decide +kernel)⟩

/-- A bound serial stands in the binding table. -/
theorem boundSerial_entry {s : State} {k : Nat} {x : Serial} (h : boundSerial s k = some x) :
    ∃ n, s.line.nodes[k]? = some n ∧ n.serial = some x := by
  unfold boundSerial at h
  cases hn : s.line.nodes[k]? with
  | none => simp [hn] at h
  | some n => exact ⟨n, rfl, by simpa [hn] using h⟩

theorem witness_BindingLaw : BindingLaw busy := by
  refine ⟨fun k x h => ?_, fun x a h => by simp [busy] at h, by decide +kernel⟩
  obtain ⟨n, hn, hx⟩ := boundSerial_entry h
  have h := at_place (P := fun k (n : NodeLink) => n.serial = none ∨
    ownSerial busy k = n.serial) (by decide +kernel) k n hn
  simpa [hx] using h

theorem witness_BoundLaw : BoundLaw busy :=
  at_place (P := fun k (c : Channel) =>
    (c.state = .centred ∨ c.state = .following ∨ c.state = .returning → isBound busy k = true) ∧
    (c.state = .absent → isBound busy k = false)) (by decide +kernel)

/-- A serial that the foreign-node table holds stands at one of its three addresses. -/
theorem foreign_entry {f : Foreign} {a : Nat} {x : Serial} (h : f.get a = some x) : a ∈ [13, 14, 15] := by
  unfold Foreign.get at h
  split at h <;> simp_all

/-- A serial that one car of the list has is the own serial of that car alone. -/
theorem own_once {s : State} {x : Serial} {k : Nat}
    (h : ∀ p ∈ s.cars.zipIdx, p.1.node.map CarNode.serial = some x → p.2 = k) :
    ∀ j, ownSerial s j = some x → j = k := by
  intro j e
  cases hc : s.cars[j]? with
  | none => simp [ownSerial, hc] at e
  | some c =>
    exact at_place (P := fun j (c : Car) => c.node.map CarNode.serial = some x → j = k) h j c hc
      (by simpa [ownSerial, hc] using e)

theorem witness_ForeignLaw : ForeignLaw busy := by
  refine ⟨fun a x h => ?_, fun a b x h1 h2 => ?_, fun x a h => by simp [busy] at h⟩
  · have h1 := (by decide +kernel : ∀ a ∈ [13, 14, 15],
      (busy.line.foreign.get a).all (fun x => (carOfSerial busy x).isNone) = true) a (foreign_entry h)
    simpa [h] using h1
  · have h := (by decide +kernel : ∀ a ∈ [13, 14, 15], ∀ b ∈ [13, 14, 15],
      busy.line.foreign.get a = none ∨ busy.line.foreign.get a ≠ busy.line.foreign.get b ∨ a = b)
      a (foreign_entry h1) b (foreign_entry h2)
    simpa [h1, h2] using h

theorem witness_OdometerLaw : OdometerLaw busy := by unfold OdometerLaw Tacho.Sound; decide +kernel

theorem witness_CaptureLaw : CaptureLaw busy ∧ CaptureLaw matched :=
  ⟨⟨by decide +kernel, by decide +kernel, by decide +kernel,
    (by decide +kernel : ∀ n ∈ busy.odo.nextNumber, 1 ≤ n ∧ n ≤ Config.captureLast ∧
      ∀ c ∈ busy.odo.captures, c.number < n)⟩,
   ⟨by decide +kernel, by decide +kernel, by decide +kernel,
    (by decide +kernel : ∀ n ∈ matched.odo.nextNumber, 1 ≤ n ∧ n ≤ Config.captureLast ∧
      ∀ c ∈ matched.odo.captures, c.number < n)⟩⟩

theorem witness_RingLaw : RingLaw busy := by unfold RingLaw; decide +kernel

theorem witness_GeometryLaw : GeometryLaw busy :=
  ⟨by decide +kernel, by decide +kernel, by decide +kernel,
    (by decide +kernel : ∀ b ∈ busy.geo.batch,
      b.staged.length ≤ Config.stagedCapacity ∧ ∀ g ∈ b.staged, 100 ≤ g.length ∧ g.length ≤ 500000)⟩

theorem witness_DeferredLaw : DeferredLaw busy ∧ DeferredLaw (muster 1 .round) := by
  unfold DeferredLaw; decide +kernel

theorem witness_LineLaw : LineLaw busy :=
  ⟨by decide +kernel, by decide +kernel, by decide +kernel, by decide +kernel, fun a x h => by simp [busy] at h⟩

theorem witness_LinkLaw : LinkLaw busy := by
  refine ⟨.inl ((running_iff busy).2 (by decide +kernel)).2, by decide +kernel, by decide +kernel, by decide +kernel,
    by decide +kernel, by decide +kernel, by decide +kernel, by decide +kernel, by decide +kernel,
    fun buffer left spoiled h => ?_⟩
  simp only [busy, Assembler.collect.injEq] at h
  obtain ⟨rfl, rfl, -⟩ := h
  exact ⟨8, [1], rfl, by decide⟩

/-- `busy` meets the hypotheses of every statement that a step keeps a law: the laws above, and its step answers a
next state. -/
theorem witness_step_busy : ∃ t, step busy = .next t ∧ t ≠ busy :=
  have h : step busy = exec (.frameEcho false) { busy with pending := [.gap] } := rfl
  ⟨_, h.trans (next_after (by decide +kernel)), by decide +kernel⟩

theorem witness_StepRunsTheFrontCommand : busy.pending = .frameEcho false :: [.gap] ∧ State.reset.pending = [] :=
  ⟨rfl, rfl⟩

theorem witness_EveryCommandAnswersNextAndKeepsTheQueue :
    (after .resetNAsserted moving).inReset = true ∧ (∀ pins, Instr.gap ≠ .resetN pins) ∧
      Instr.gap ≠ .resetNAsserted := ⟨rfl, fun _ => by simp, by simp⟩

theorem witness_RequestFramesDecodeToTheirRequest :
    lengthAgrees (.setFormation 6 0 0 0 sixRecords) = true ∧ lengthAgrees (.addSegments 0 1 2 3 []) = true := by
  decide +kernel

theorem witness_RequestCommandsActAsTheirFrames :
    commandFrame (.queryCar 7 3) = some { kind := 0x28, tag := 7, body := [3] } ∧
    commandFrame (.unknownKind 0x7F 7 [1]) = some { kind := 0x7F, tag := 7, body := [1] } := by decide +kernel

theorem witness_CleanFramesAreAssembledWhole :
    (Frame.mk 0x7F 0 (List.replicate 248 0xC5)).body.length ≤ 248 ∧ moving.link.asm = .hunt := by decide +kernel

theorem witness_EachSerialHoldsOneAddress :
    boundSerial busy 1 = some 40017211 ∧ busy.line.foreign.get 15 = some 39800004 := by decide +kernel


/-! ## Witnesses: the link and its requests -/

/-- Every state below whose link is free. -/
theorem witness_LinkFree :
    LinkFree six ∧ LinkFree standby ∧ LinkFree running ∧ LinkFree moving ∧ LinkFree matched ∧ LinkFree gapped ∧
      LinkFree junction ∧ LinkFree busy ∧ LinkFree (muster 1 .round) := by
  simp only [linkFree_iff]; decide +kernel

theorem witness_FramesWaitOrAreRefusedAtTheSlot :
    let s := after (.queryStatus 7) six
    let t := after (.rollCall 8) s
    commandFrame (.rollCall 8) = some { kind := 0x30, tag := 8, body := [] } ∧ Running s ∧
      s.link.reply ≠ none ∧ s.link.slot = none ∧ Running t ∧ t.link.reply ≠ none ∧ t.link.slot ≠ none := by
  simp only [running_iff]; decide +kernel

/-- Every kind of body with a reserved byte that is not zero, in the second record; lengths beside the admitted one. -/
theorem witness_TheLinkRefusesInOrder_forms :
    let car : CarWire := { plain 0 0 1 with rsv14 := 1 }
    let segment : SegmentWire := ⟨0, 0, 0, 0, 0, 0, 0, 0, 1⟩
    reservedFault (.setFormation 2 0 0 0 [plain 0 0 1, car]) = some (4 + 16 * 1 + 14) ∧
    isReserved (.setFormation 2 0 0 0 [plain 0 0 1, car]) (4 + 16 * 1 + 14) ∧
    (requestBody (.setFormation 2 0 0 0 [plain 0 0 1, car]))[34]? = some 1 ∧
    reservedFault (.addSegments 1 0 0 0 [segment]) = some (4 + 20 * 0 + 19) ∧
    reservedFault (.resolveCapture 5 0 1 0) = some 3 ∧ reservedFault (.nodeTransfer 0 0 0 1 0) = some 3 ∧
    reservedFault .identify = none ∧ requestCodes.contains 0x28 = true ∧
    ([] : List Byte).length ≠ admittedLength 0x28 [] ∧
    ([1, 2] : List Byte).length ≠ admittedLength 0x28 [1, 2] ∧ ([1] : List Byte).length = admittedLength 0x28 [1] ∧
    admittedLength 0x12 [2, 0, 0, 0] = 36 ∧ admittedLength 0x21 [1, 0, 0, 0] = 24 ∧ admittedLength 0x10 [] = 112 := by
  unfold isReserved; decide +kernel

/-- The last character of a QueryCar whose body has two bytes. -/
theorem witness_TheLinkRefusesInOrder_length :
    let f : Frame := { kind := 0x28, tag := 9, body := [1, 2] }
    let bytes := coveredBytes f ++ bytes2 (crc16 (coveredBytes f))
    let last := cleanChar (bytes.getLastD 0)
    let s := { six with link := { six.link with fifo := [last], asm := .collect bytes.dropLast 1 false } }
    f.body.length ≤ 248 ∧ LinkFree s ∧ s.link.fifo = last :: [] ∧ last.gap = false ∧ last.isMarked = false ∧
    s.link.asm = .collect bytes.dropLast 1 false ∧ bytes.dropLast ++ [last.data] = bytes ∧
    replyBody .frameEnd s = [2, 0, 0, 0] := by
  simp only [linkFree_iff]; decide +kernel

/-- The admission of each request holds in some state and fails in another. -/
theorem witness_TheLinkRefusesInOrder :
    requestCodes.contains 0x7F = false ∧
    commandRequest (.setFormation 1 6 0 0 0 []) = some (1, .setFormation 6 0 0 0 []) ∧
    lengthAgrees (.setFormation 6 0 0 0 []) = false ∧
    commandRequest (.commission 1) = some (1, .commission) ∧ lengthAgrees .commission = true ∧
    admitted .commission standby = false ∧ admitted .commission six = true ∧
    commandRequest (.nodeTransfer 1 0 0 0 1 0) = some (1, .nodeTransfer 0 0 0 1 0) ∧
    lengthAgrees (.nodeTransfer 0 0 0 1 0) = true ∧ admitted (.nodeTransfer 0 0 0 1 0) six = true ∧
    reservedFault (.nodeTransfer 0 0 0 1 0) = some 3 ∧ admitted .rollCall moving = false ∧
    admitted (.openBatch 0) standby = false ∧ admitted (.openBatch 0) moving = true := by decide +kernel

theorem witness_StatusRepliesCarryTheState :
    LinkFree busy ∧ LinkLaw busy ∧ FormationLaw busy ∧ TableLaw busy ∧ busy.ctl.rateCode ≤ 3 :=
  ⟨(linkFree_iff _).2 (by decide +kernel), witness_LinkLaw, witness_FormationLaw, witness_TableLaw, by decide +kernel⟩

theorem witness_PositionAndGeometryRepliesCarryTheirState :
    LinkFree busy ∧ ParamsLaw busy ∧ OdometerLaw busy ∧ CaptureLaw busy ∧ GeometryLaw busy ∧
      busy.odo.captures[0]? = some ⟨4, 996800, 4950⟩ :=
  ⟨(linkFree_iff _).2 (by decide +kernel), witness_ParamsLaw, witness_OdometerLaw, witness_CaptureLaw.1,
    witness_GeometryLaw, by decide +kernel⟩

/-- The first and the last field at their limits and one beyond, both cross checks, and an accepted set. -/
theorem witness_ParametersAreCheckedInTwoPasses :
    LinkFree standby ∧ standby.ctl.mode ≠ .setup ∧ LinkFree six ∧ six.ctl.mode = .setup ∧
    insideRange (defaultValues.set 0 1800) 0 = true ∧ insideRange (defaultValues.set 0 1801) 0 = false ∧
    (∀ i, i < 27 → insideRange (defaultValues.set 27 2) i = true) ∧ insideRange (defaultValues.set 27 2) 27 = false ∧
    (∀ i, insideRange (newValues 1300) i = true) ∧
    ¬((newValues 1300)[10].toNat ≤ (newValues 1300)[9].toNat ∧
      (newValues 1300)[9].toNat ≤ (newValues 1300)[8].toNat) ∧
    (∀ i, insideRange (defaultValues.set 21 300000) i = true) ∧
    (defaultValues.set 21 300000)[21].toNat ≤ (defaultValues.set 21 300000)[20].toNat ∧
    (∀ i, insideRange (newValues 900) i = true) ∧ (newValues 900)[10].toNat ≤ (newValues 900)[9].toNat ∧
    (newValues 900)[9].toNat ≤ (newValues 900)[8].toNat ∧ (newValues 900)[20].toNat < (newValues 900)[21].toNat := by
  simp only [linkFree_iff]; decide +kernel

theorem witness_AcceptedParametersAreInForceAndReadBack :
    LinkFree cycling ∧ CentreLaw cycling ∧ cycling.ctl.mode = .setup ∧ paramsFault (newValues 900) = none := by
  simp only [centreLaw_iff, linkFree_iff]; decide +kernel

/-- No records, thirteen, a set that passes, and the first set of the worked example: INDEX passes, RANGE fails at car
3 alone. -/
theorem witness_FormationsPassExactlyTheirChecks :
    let bad := setOf 10200 40017302
    ([] : List CarWire).length = 0 ∧ 12 < (List.replicate 13 (plain 0 0 1)).length ∧
    formationFault 6 sixRecords = none ∧ (1 ≤ bad.length ∧ bad.length ≤ 12) ∧
    [Detail.index, .range, .firstBogie, .order, .sensing, .serial][1]? = some .range ∧
    (∀ k x, bad[k]? = some x → passesCheck bad k x .index) ∧
    (∀ k x, bad[k]? = some x → if k = 3 then ¬passesCheck bad k x .range else passesCheck bad k x .range) :=
  ⟨by decide, by decide, by decide +kernel, by decide +kernel, rfl,
    at_place (by simp only [passesCheck]; decide +kernel), at_place (by simp only [passesCheck]; decide +kernel)⟩

theorem witness_SetFormationReplacesTheTrain :
    LinkFree cycling ∧ cycling.ctl.mode = .setup ∧ cycling.line.state ≠ .mustering ∧
    sixRecords.length = (6 : Byte).toNat ∧ reservedFault (.setFormation 6 0 0 0 sixRecords) = none ∧
    formationFault (6 : Byte).toNat sixRecords = none ∧
    (setOf 10200 0).length = (6 : Byte).toNat ∧ reservedFault (.setFormation 6 0 0 0 (setOf 10200 0)) = none ∧
    formationFault (6 : Byte).toNat (setOf 10200 0) = some (.range, 3) ∧
    LinkFree (muster 1 .round) ∧ (muster 1 .round).ctl.mode = .setup ∧ (muster 1 .round).line.state = .mustering := by
  simp only [linkFree_iff]; decide +kernel

/-- Car 3 is the sensing car; the same set without it names none. -/
theorem witness_GetFormationReturnsTheRecords :
    let none3 := sixRecords.map (fun w => { w with sensing := 0 })
    LinkFree six ∧ sixRecords.length = (6 : Byte).toNat ∧
    reservedFault (.setFormation 6 0#8 0#8 0#8 sixRecords) = none ∧ formationFault (6 : Byte).toNat sixRecords = none ∧
    six.cars = sixRecords.map carOfWire ∧ formationFault (6 : Byte).toNat none3 = none ∧
    (∀ w ∈ none3, w.sensing = 0#8) ∧ LinkFree started ∧ started.cars = [] := by
  simp only [linkFree_iff]; decide +kernel

/-- A car on its way back to centre. -/
def returning : State :=
  { standby with chans := standby.chans.modify 1 (fun c => { c with state := .returning, theta := 5 }) }

theorem witness_CommissionAndReturnChangeTheMode :
    LinkFree six ∧ six.ctl.mode = .setup ∧ six.cars ≠ [] ∧ LinkFree started ∧ started.ctl.mode = .setup ∧
    started.cars = [] ∧ LinkFree standby ∧ standby.ctl.mode = .standby ∧ standby.ctl.run = false ∧
    (∀ c ∈ standby.chans, c.state ≠ .returning) ∧ LinkFree returning ∧ returning.ctl.mode = .standby ∧
    returning.ctl.run = false ∧ (∃ c ∈ returning.chans, c.state = .returning) := by
  simp only [linkFree_iff]; decide +kernel

theorem witness_TiltIsEnabledAndWithdrawnByRequest :
    let off := { running with line := { running.line with state := .halted } }
    let held := after (.inhibitAsserted) running
    let stopped := after .inhibitAsserted moving
    let released := after .inhibitReleased stopped
    LinkFree off ∧ off.ctl.mode = .standby ∧ off.ctl.run = true ∧ off.line.state ≠ .cycling ∧
    LinkFree held ∧ held.ctl.mode = .standby ∧ held.ctl.run = true ∧ held.line.state = .cycling ∧
    held.ctl.inhibit = true ∧ LinkFree running ∧ running.ctl.mode = .standby ∧ running.ctl.run = true ∧
    running.line.state = .cycling ∧ running.ctl.inhibit = false ∧ LinkFree stopped ∧ stopped.ctl.mode = .inhibited ∧
    stopped.ctl.inhibit = true ∧ LinkFree released ∧ released.ctl.mode = .inhibited ∧ released.ctl.inhibit = false ∧
    LinkFree moving ∧ CentreLaw moving ∧ moving.ctl.mode = .active := by
  simp only [centreLaw_iff, linkFree_iff]; decide +kernel

/-- Both ends of the range of an origin, and one beyond each. -/
theorem witness_RunsStartAndEndInEveryBlock :
    LinkFree standby ∧ standby.ctl.mode = .standby ∧ standby.ctl.run = false ∧
    (-2000000000 : Word).toInt = -2000000000 ∧ (2000000000 : Word).toInt = 2000000000 ∧
    (-2000000001 : Word).toInt < -2000000000 ∧ 2000000000 < (2000000001 : Word).toInt ∧
    LinkFree running ∧ running.ctl.mode = .standby ∧ running.ctl.run = true := by
  simp only [linkFree_iff]; decide +kernel

theorem witness_FixesCorrectThePosition :
    let last := { matched with odo := { matched.odo with nextNumber := none } }
    let high := { matched with odo := { matched.odo with pos := 2147483000, captures := [⟨5, 100, 0⟩] } }
    matched.odo.trust = true ∧ ¬matched.odo.uCm + matched.params.fixAccuracy < ((1204250 : Int) - 1204310).natAbs ∧
    tunnel.odo.trust = false ∧ LinkFree high ∧ high.ctl.run = true ∧ ParamsLaw high ∧ OdometerLaw high ∧
    high.odo.captures.find? (fun e => e.number == (5 : Half).toNat) = some ⟨5, 100, 0⟩ ∧
    saturatePos (high.odo.pos + ((1204250 : Word).toInt - 100)) ≠ high.odo.pos + ((1204250 : Word).toInt - 100) ∧
    LinkFree matched ∧ matched.ctl.run = true ∧ ParamsLaw matched ∧ OdometerLaw matched ∧ (5 : Half) ≠ 0 ∧
    inRoute (1204250 : Word).toInt = true ∧
    matched.odo.captures.find? (fun e => e.number == (5 : Half).toNat) = some ⟨5, 1204310, 4980⟩ ∧
    inRoute (2000000001 : Word).toInt = false ∧ (∀ e ∈ matched.odo.captures, e.number ≠ (3 : Half).toNat) ∧
    matched.odo.nextNumber = some 7 ∧ (3 : Half).toNat < 7 ∧ 7 ≤ (7 : Half).toNat ∧
    (∀ e ∈ matched.odo.captures, e.number ≠ (7 : Half).toNat) ∧ LinkFree last ∧ last.ctl.run = true ∧
    last.odo.nextNumber = none := by
  unfold ParamsLaw OdometerLaw Tacho.Sound; simp only [linkFree_iff]; decide +kernel

/-- The third record fails field 2 as the first of its fields, and the two before it pass them all. -/
theorem witness_BatchesAreOpenedAndStaged_fault :
    passesField (offered 200 99) 1 ∧ ¬passesField (offered 200 99) 2 ∧
      (∀ n, passesField (offered 0 100) n) ∧ ∀ n, passesField (offered 100 100) n := by
  refine ⟨?_, ?_, fun n => ?_, fun n => ?_⟩ <;> simp +decide [passesField]

/-- No batch, a batch, counts 0, 1, 8 and 9, a field out of range, 31 and 32 staged records with one more offered. -/
theorem witness_BatchesAreOpenedAndStaged :
    let full (n : Nat) : State := { gapped with geo := { gapped.geo with
      batch := some { declared := 0, staged := List.replicate n segT } } }
    let eight := List.replicate 8 (offered 0 100)
    LinkFree running ∧ running.ctl.run = true ∧ running.geo.batch = none ∧ inRoute (5 : Word).toInt = true ∧
    inRoute (2000000001 : Word).toInt = false ∧ LinkFree gapped ∧ gapped.ctl.run = true ∧ gapped.geo.batch ≠ none ∧
    reservedFault (.addSegments 0 0#8 0#8 0#8 []) = none ∧ eight.length = (8 : Byte).toNat ∧
    reservedFault (.addSegments 8 0#8 0#8 0#8 eight) = none ∧ segmentsFault 0 eight = none ∧
    (List.replicate 9 (offered 0 100)).length = (9 : Byte).toNat ∧ segmentsFault 0 [offered 0 99] = some (0, 2) ∧
    LinkFree (full 31) ∧ (full 31).geo.stagedCount + 1 ≤ 32 ∧ LinkFree (full 32) ∧
      32 < (full 32).geo.stagedCount + 1 := by
  simp only [linkFree_iff]; decide +kernel

/-- The look-ahead short while armed, short while not, long while not, and a commit that passes its checks. -/
theorem witness_BatchesCommitWholeOrNotAtAll :
    let long (armed : Bool) : State := { running with geo := { running.geo with
      committed := [segment 0 1900000 0 0 0 0 none], armed := armed } }
    let joins := { gapped with geo := { gapped.geo with committed := [segment 1020000 432000 0 0 0 0 none] } }
    running.geo.armed = true ∧ lookAhead running < running.params.lookLow ∧ (long true).geo.armed = true ∧
    ((long true).params.lookLow : Int) ≤ lookAhead (long true) ∧ (long false).geo.armed = false ∧
    ((long false).params.lookHigh : Int) < lookAhead (long false) ∧ cycling.geo.armed = false ∧
    lookAhead cycling ≤ cycling.params.lookHigh ∧ LinkFree running ∧ running.ctl.run = true ∧
    running.geo.batch = none ∧ LinkFree gapped ∧ gapped.ctl.run = true ∧
    gapped.geo.batch.map (fun b => batchFault (3 : Byte).toNat b gapped.geo) = some (some .gap) ∧ LinkFree joins ∧
    joins.ctl.run = true ∧ joins.geo.batch.map (fun b => batchFault (3 : Byte).toNat b joins.geo) = some none := by
  simp only [linkFree_iff]; decide +kernel

/-- COUNT and START pass, GAP is the first check that fails. -/
theorem witness_BatchesCommitWholeOrNotAtAll_fault :
    ∃ b, gapped.geo.batch = some b ∧ passesClose 3 b gapped.geo.committed .count ∧
      passesClose 3 b gapped.geo.committed .start ∧ ¬passesClose 3 b gapped.geo.committed .gap :=
  ⟨_, rfl, rfl, ⟨_, rfl, rfl⟩, fun h => absurd (h _ rfl) (by decide)⟩

/-- One before the protected limit, the limit itself, a position outside the range, an open batch. -/
theorem witness_TruncationCutsTheRouteAtX :
    let limit := junction.odo.pos + ((junction.odo.v * largestLead junction / 1000 : Nat) : Int) +
      junction.params.truncateGuard
    LinkFree junction ∧ junction.ctl.run = true ∧ inRoute (2000000001 : Word).toInt = false ∧
    junction.geo.batch = none ∧ inRoute (2021749 : Word).toInt = true ∧ (2021749 : Word).toInt < limit ∧
    inRoute (2021750 : Word).toInt = true ∧ limit ≤ (2021750 : Word).toInt ∧ LinkFree gapped ∧
    gapped.ctl.run = true ∧ gapped.geo.batch ≠ none := by
  simp only [linkFree_iff]; decide +kernel

theorem witness_TruncationCutsTheRouteAtX_law : GeometryLaw junction :=
  ⟨by decide +kernel, by decide +kernel, by decide +kernel, by simp [junction, running, beginRun, State.setGeo,
    State.setRing]⟩

/-- A car FAILED in each of the ways that ClearCarFault tells apart. -/
def failedCar (f : Channel → Channel) : State :=
  { moving with chans := moving.chans.modify 2 (fun c => f (c.toFailed .nodeFault)) }

theorem witness_CarsAreQueriedAndCleared :
    let halted := { failedCar id with line := { moving.line with state := .halted } }
    let lost := { failedCar id with line := { moving.line with nodes := noNodes moving } }
    let at2 (s : State) (p : Channel → Bool) : Bool := (s.chans[2]?).any p
    LinkFree moving ∧ moving.cars.length ≤ (6 : Byte).toNat ∧ (2 : Byte).toNat < moving.cars.length ∧
    at2 moving (fun c => c.state != .failed) = true ∧ (moving.plan.records[2]?).isSome = true ∧
    LinkFree halted ∧ at2 halted (fun c => c.state == .failed) = true ∧ halted.line.state ≠ .cycling ∧
    LinkFree lost ∧ at2 lost (fun c => c.state == .failed) = true ∧ lost.line.state = .cycling ∧
      isBound lost 2 = false ∧
    LinkFree (failedCar fun c => { c with cond := none }) ∧
    at2 (failedCar fun c => { c with cond := none }) (fun c => c.state == .failed && c.cond == none) = true ∧
    isBound (failedCar fun c => { c with cond := none }) 2 = true ∧
    at2 (failedCar fun c => { c with cond := some .fault })
      (fun c => c.state == .failed && c.cond == some .fault) = true ∧
    at2 (failedCar id) (fun c => c.state == .failed && c.cond == some .ready) = true ∧
    (failedCar id).line.state = .cycling := by
  simp only [linkFree_iff]; decide +kernel

theorem witness_RollCallStartsAMuster :
    let waiting := { standby with link := { standby.link with completions := [replyFrame 0x30 1 .ok .none 0 []] } }
    LinkFree started ∧ started.ctl.mode = .setup ∧ started.cars = [] ∧ LinkFree (muster 1 .round) ∧
    (muster 1 .round).ctl.mode = .setup ∧ (muster 1 .round).cars ≠ [] ∧ (muster 1 .round).line.state = .mustering ∧
    LinkFree waiting ∧ waiting.cars ≠ [] ∧ (∃ f ∈ waiting.link.completions, f.kind = 0xB0#8) ∧
    LinkFree returning ∧ returning.ctl.mode = .standby ∧ returning.line.state ≠ .mustering ∧
    (∀ f ∈ returning.link.completions, f.kind ≠ 0xB0#8) ∧ (∃ c ∈ returning.chans, c.state = .returning) ∧
    LinkFree standby ∧ standby.ctl.mode = .standby ∧ standby.cars ≠ [] ∧ standby.line.state ≠ .mustering ∧
    (∀ f ∈ standby.link.completions, f.kind ≠ 0xB0#8) ∧ (∀ c ∈ standby.chans, c.state ≠ .returning) := by
  simp only [linkFree_iff]; decide +kernel

/-- Car index 5 and 6, direction 2, a READ with a value; three and four transfers outstanding; countdowns of 1 and 2.
-/
theorem witness_TransfersAlertsAndReporting :
    let queued (n : Nat) : State := { moving with line := { moving.line with maint := List.replicate n ⟨3, false,
      1, 0, 1⟩ } }
    let counting (n : Nat) : State := { moving with link := { moving.link with period := 5, countdown := n } }
    LinkFree moving ∧ moving.cars.length ≤ (6 : Byte).toNat ∧ 1 < (2 : Byte).toNat ∧
    (3 : Byte).toNat < moving.cars.length ∧ LinkFree six ∧ six.line.state ≠ .cycling ∧
    (3 : Byte).toNat < six.cars.length ∧ moving.line.state = .cycling ∧ isBound moving (5 : Byte).toNat = false ∧
    (5 : Byte).toNat < moving.cars.length ∧ LinkFree (queued 4) ∧ isBound (queued 4) (3 : Byte).toNat = true ∧
    4 ≤ (queued 4).line.maint.length + (queued 4).link.completions.countP (fun f => f.kind == 0xB1#8) ∧
    LinkFree (queued 3) ∧
    (queued 3).line.maint.length + (queued 3).link.completions.countP (fun f => f.kind == 0xB1#8) < 4 ∧
    busy.line.alerts[0]? = some ⟨2, .note, 7, 999000⟩ ∧ moving.link.period = 0 ∧ LinkFree (counting 1) ∧
    (counting 1).link.period ≠ 0 ∧ (counting 1).link.countdown = 1 ∧ 2 ≤ (counting 2).link.countdown ∧
    moving.cars ≠ [] ∧ LinkFree started ∧ started.cars = [] := by
  simp only [linkFree_iff]; decide +kernel


/-! ## Witnesses: pins and the odometer -/

theorem witness_InhibitIsFilteredLatchedAndWithdrawsTilt :
    let third (s : State) : State := { s with ctl := { s.ctl with inhibitCount := 2 } }
    Running moving ∧ moving.ctl.inhibitCount < 2 ∧ Running six ∧ six.ctl.inhibit = true ∧
    (third six).ctl.inhibit = true ∧ (third six).ctl.inhibitCount = 2 ∧ running.ctl.inhibit = false ∧
    running.ctl.mode ≠ .active ∧ moving.ctl.inhibit = false ∧ moving.ctl.mode = .active ∧ CentreLaw moving ∧
    (third moving).ctl.inhibitCount = 2 := by
  simp only [centreLaw_iff, running_iff]; decide +kernel

/-- Seven and eight captures held, the numbers exhausted, the last number, no run. -/
theorem witness_MarkerEdgesMakeCaptures :
    let third (s : State) : State := { s with odo := { s.odo with markerCount := 2 } }
    let held (n : Nat) : State := { running with odo := { running.odo with captures := List.replicate n ⟨1, 0, 0⟩ } }
    let spent := { running with odo := { running.odo with nextNumber := none } }
    let high := { third running with odo := { (third running).odo with marker := true } }
    Running running ∧ running.odo.markerCount < 2 ∧ high.odo.marker = true ∧ high.odo.markerCount = 2 ∧
    (third running).odo.marker = false ∧ (third running).odo.markerCount = 2 ∧ standby.odo.marker = false ∧
    standby.ctl.run = false ∧ spent.ctl.run = true ∧ spent.odo.nextNumber = none ∧ (held 7).ctl.run = true ∧
    (held 7).odo.nextNumber = some 1 ∧ (held 7).odo.captures.length < 8 ∧
    (held 8).odo.captures = ⟨1, 0, 0⟩ :: List.replicate 7 ⟨1, 0, 0⟩ := by
  simp only [running_iff]; decide +kernel

/-- Line 1 leads out of equal and out of unequal levels, it lags out of both, both lines change, at three quarters, at
none and at three back. -/
theorem witness_SlotsMeasureBothChannels_pulses :
    let at3 (q : Int) (p : Pair) : Tacho := { running.odo.tachoA with phase := p, quarters := q }
    (at3 3 ⟨false, true⟩).phase.line1 ≠ (at3 3 ⟨false, true⟩).phase.line2 ∧ (at3 3 ⟨false, true⟩).quarters = 3 ∧
    (at3 (-3) ⟨true, false⟩).phase.line1 ≠ (at3 (-3) ⟨true, false⟩).phase.line2 ∧
    (at3 0 ⟨false, false⟩).phase.line1 = (at3 0 ⟨false, false⟩).phase.line2 ∧
    (at3 3 ⟨true, true⟩).quarters.natAbs ≤ 3 ∧ (at3 (-3) ⟨true, true⟩).quarters.natAbs ≤ 3 ∧
    (running.odo.tacho .a).phase = ⟨false, false⟩ ∧ (running.odo.tacho .a).quarters = 0 := by decide +kernel

/-- A channel silent for 100 slots with the other at 500 and at 499 cm/s; slots with and without a run. -/
theorem witness_SlotsMeasureBothChannels :
    let silent (w : List Int) : State := { running with odo := { running.odo with
      tachoA := { running.odo.tachoA with silent := 100 }, tachoB := { running.odo.tachoB with window := w } } }
    Running standby ∧ standby.ctl.run = false ∧
    ((silent (List.replicate 10 50000)).odo.tacho .a).failed = false ∧
    ((silent (List.replicate 10 50000)).odo.tacho .a).silent = 100 ∧
    500 ≤ ((silent (List.replicate 10 50000)).odo.tacho (otherTacho .a)).speed ∧
    ((silent (List.replicate 10 49999)).odo.tacho (otherTacho .a)).speed < 500 ∧
    ((silent []).odo.tacho .b).silent ≠ 100 ∧
    -- without a run: a channel newly FAILED, and a slide
    let failing := { standby with odo := { standby.odo with
      tachoA := { standby.odo.tachoA with silent := 99 }
      tachoB := { standby.odo.tachoB with window := fast } } }
    let sliding := { standby with odo := { standby.odo with tachoA := { standby.odo.tachoA with increment := 25 } } }
    Running failing ∧ failing.ctl.run = false ∧ failing.odo.tachoA.failed = false ∧ failedAfter failing .a = true ∧
    Running sliding ∧ sliding.ctl.run = false ∧ isSlide sliding = true := by
  simp only [running_iff]; decide +kernel

/-- Distances inside the range, at both ends and beyond them. -/
theorem witness_SlotDistancesAddToThePositionExactly :
    let pushed (p : Int) (n : Int) : State := { running with odo := { running.odo with
      pos := p, tachoA := { running.odo.tachoA with increment := n }, tachoB := { running.odo.tachoB with
        increment := n } } }
    let total (s : State) : Int := s.odo.pos * 10000 + s.odo.rho + slotDistance s
    Running standby ∧ 0 ≤ standby.odo.rho ∧ standby.odo.rho < 10000 ∧ standby.ctl.run = false ∧
    Running running ∧ running.ctl.run = true ∧ 0 ≤ running.odo.rho ∧ running.odo.rho < 10000 ∧
    (-21474836480000 ≤ total (pushed 2147483645 1) ∧ total (pushed 2147483645 1) < 21474836480000) ∧
    21474836480000 ≤ total (pushed 2147483646 1) ∧ -21474836480000 ≤ total (pushed (-2147483646) (-1)) ∧
    total (pushed (-2147483647) (-1)) < -21474836480000 := by
  simp only [running_iff]; decide +kernel

/-- A slot that raises nothing, and slots that newly fail a channel, that slide and that let a capture expire. -/
theorem witness_SlotsOfARunUpdateUncertaintyAndRelease :
    let failing := { running with odo := { running.odo with tachoA := { running.odo.tachoA with silent := 99 } } }
    let sliding := { running with odo := { running.odo with tachoA := { running.odo.tachoA with increment := 25 } } }
    let late := { running with odo := { running.odo with captures := [⟨1, 700000, 0⟩] } }
    Running busy ∧ busy.ctl.run = true ∧ Running failing ∧ failedAfter failing .a = true ∧
    failing.odo.tachoA.failed = false ∧ isSlide sliding = true ∧ isSlide running = false ∧
    (late.params.captureExpiry : Int) < late.odo.pos - 700000 := by
  simp only [running_iff]; decide +kernel

/-! ## Witnesses: the planner, the channels and the limiter -/

theorem witness_TableLaw_tunnel : TableLaw tunnel :=
  ⟨by decide +kernel, by decide +kernel, by decide +kernel,
    at_place (P := fun k (c : Channel) => c.state = .notFitted ↔ isTilting tunnel k = false) (by decide +kernel)⟩

/-- Every row of R103: no run, below speedMin, predictive, reactive, none; a car without a node. -/
theorem witness_ComputationsChooseASourcePerCar :
    let slow := { moving with params := { moving.params with speedMin := 5001 } }
    let front (s : State) : Option Segment := (s.cars[1]?).bind fun c => c.node.bind fun n => s.geo.at (frontAt s c n)
    Running started ∧ started.cars = [] ∧ Running tunnel ∧ tunnel.cars ≠ [] ∧
    (tunnel.cars[0]?).map Car.node = some none ∧ standby.ctl.run = false ∧ moving.ctl.run = true ∧
    slow.odo.v < slow.params.speedMin ∧ moving.params.speedMin ≤ moving.odo.v ∧ front moving = some segT ∧
    moving.odo.trust = true ∧ front tunnel ≠ none ∧ tunnel.odo.trust = false ∧
    tunnel.params.speedMin ≤ tunnel.odo.v ∧ moving.params.faultPolicy = .whole := by
  simp only [running_iff]; decide +kernel

/-- FOLLOWING under LOCAL with each source; no period, a countdown of 2 and of 1; the route run out. -/
theorem witness_ComputationsChooseASourcePerCar_envelope :
    let apart (s : State) : State := { s with params := { s.params with faultPolicy := .isolated } }
    let slow (s : State) : State := { s with params := { s.params with speedMin := 5001 } }
    let counting (n : Nat) : State := { moving with link := { moving.link with period := 5, countdown := n } }
    let spent := { moving with geo := { moving.geo with committed := [] } }
    let source (s : State) : Option Source := ((after .plannerComputation s).plan.records[1]?).map PlanRecord.source
    (apart moving).params.faultPolicy = .isolated ∧ isFollowing (apart moving) 1 = true ∧ Running (apart moving) ∧
    source (apart moving) = some .pred ∧ source (apart tunnel) = some .react ∧ isFollowing (apart tunnel) 1 = true ∧
    source (slow (apart moving)) = some .none ∧ isFollowing (slow (apart moving)) 1 = true ∧
    moving.link.period = 0 ∧ (counting 2).link.period ≠ 0 ∧ 2 ≤ (counting 2).link.countdown ∧
    (counting 1).link.countdown = 1 ∧ spent.ctl.mode = .active ∧ spent.plan.exhausted = false ∧
    (after .plannerComputation spent).plan.exhausted = true := by
  simp only [running_iff]; decide +kernel

/-- A car FOLLOWING under LOCAL between pinned cars; a predictive target with and without caps. -/
theorem witness_TargetsRespectCapsAndGangways :
    let s1 := { moving with params := { moving.params with faultPolicy := .isolated } }
    s1.params.faultPolicy = .isolated ∧ isFollowing s1 1 = true ∧ (0, 0) ∈ pinnedCars s1 ∧
    (∀ x ∈ pinnedCars s1, (3000 - x.2).natAbs ≤ s1.params.adjacentMax * (gangways 1 x.1).natAbs) ∧
    (∀ x ∈ pinnedCars s1, x.2.natAbs ≤ s1.params.thetaMax) ∧ (4295 : Int).natAbs ≤ s1.params.thetaMax ∧
    isFollowing s1 0 = false ∧ moving.params.faultPolicy = .whole ∧ segT.cap = none ∧
    ({ segT with cap := some 6000 } : Segment).cap = some 6000 := by decide +kernel

/-- Bounds that leave an angle, bounds that leave none, samples felt and none felt, and the ring empty. -/
theorem witness_TargetsRespectCapsAndGangways_bounds :
    let s1 := { moving with
      params := { moving.params with faultPolicy := .isolated }
      chans := moving.chans.modify 2 (fun c => c.toFailed .nodeFault) }
    let s2 := { s1 with
      params := { s1.params with adjacentMax := 2000 }
      chans := (moving.chans.modify 2 (fun c => { c with state := .returning, theta := 6000 })).modify 4
        (fun c => c.toFailed .nodeFault) }
    let felt (q window : Int) : List Sample :=
      samples.filter (fun x => decide (q - window ≤ x.position ∧ x.position ≤ q))
    (s1.params.faultPolicy = .isolated ∧ isFollowing s1 1 = true ∧ (2, 0) ∈ pinnedCars s1 ∧
      (∀ x ∈ pinnedCars s1, x.2 - s1.params.adjacentMax * ((1 : Int) - x.1).natAbs ≤ -3000 ∧
        3000 ≤ x.2 + s1.params.adjacentMax * ((1 : Int) - x.1).natAbs)) ∧
    (isFollowing s2 3 = true ∧ (2, 6000) ∈ pinnedCars s2 ∧ (4, 0) ∈ pinnedCars s2 ∧
      (∀ x ∈ pinnedCars s2, x.2 - s2.params.adjacentMax * ((3 : Int) - x.1).natAbs ≤ 4000 ∧
        2000 ≤ x.2 + s2.params.adjacentMax * ((3 : Int) - x.1).natAbs)) ∧
    samples.getLast?.map Sample.position = some 1000000 ∧ felt 1000000 500 ≠ [] ∧ felt 998700 500 = [] := by
  decide +kernel

/-- A delivered list, with cars in each state that a list finds. -/
def delivered6 (s : State) : State := after .plannerComputation s

theorem witness_TargetListsMoveTheCars :
    let ready := delivered6 (enterActive running)
    let back := delivered6 (after .inhibitAsserted moving)
    let c1 (s : State) (p : Channel → Bool) : Bool := (s.chans[1]?).any p
    Running moving ∧ moving.plan.delivered = none ∧ (delivered6 moving).plan.delivered.isSome = true ∧
    (moving.chans[0]?).any (fun c : Channel => c.state == .notFitted) = true ∧
    c1 moving (fun c => c.state == .following) = true ∧
    back.plan.delivered.isSome = true ∧ c1 back (fun c => c.state == .returning) = true ∧
    ready.plan.delivered.isSome = true ∧ ready.ctl.mode = .active ∧
    c1 ready (fun c => c.state == .centred && c.cond == some .ready && c.angle == some 120) = true ∧
    120 ≤ ready.params.centreBand ∧ (∀ d ∈ ready.chans, d.state ≠ .failed ∧ d.state ≠ .absent) ∧
    running.ctl.mode ≠ .active ∧ c1 running (fun c => c.state == .centred) = true := by
  simp only [running_iff]; decide +kernel

/-- Worked example of one pass: e = 105, s1 = s2 = 100, b = 27, the braked step 92. -/
theorem witness_LimiterPassesFollowTheirSevenSteps :
    let s := delivered6 moving
    Running s ∧ s.plan.delivered.map (fun l => (l[2]?).map Target.angle) = some (some 3095) ∧
    s.chans[2]?.map (fun c : Channel => (c.state, c.theta, c.step)) = some (.following, 2990, 96) ∧
    (105 : Int) = 3095 - 2990 ∧ (100 : Int) = clamp 105 (96 - s.params.dStep) (96 + s.params.dStep) ∧
    (100 : Int) = clamp 100 (-s.params.sMax) s.params.sMax ∧
    27 * (27 + s.params.dStep) ≤ 2 * s.params.dStep * (105 : Int).natAbs ∧
    2 * s.params.dStep * (105 : Int).natAbs < (27 + 1) * (27 + 1 + s.params.dStep) ∧
    (92 : Int) = max 27 (96 - s.params.dStep) := by
  simp only [running_iff]; decide +kernel

/-- A RETURNING car at the third pass of the worked example of returning: e = −44, b = 16, no braking. -/
theorem witness_LimiterPassesFollowTheirSevenSteps_returning :
    let s := { delivered6 (after .inhibitAsserted moving) with
      chans := moving.chans.modify 1 (fun c => { c with state := .returning, theta := 44, step := 0 }) }
    Running s ∧ s.plan.delivered.any (fun l => (l[1]?).isSome) = true ∧
    s.chans[1]?.map (fun c : Channel => (c.state, c.theta, c.step)) = some (.returning, 44, 0) ∧
    (-4 : Int) = clamp (-44) (0 - s.params.dStep) (0 + s.params.dStep) ∧
    (-4 : Int) = clamp (-4) (-s.params.sMax) s.params.sMax ∧
    16 * (16 + s.params.dStep) ≤ 2 * s.params.dStep * (-44 : Int).natAbs ∧
    2 * s.params.dStep * (-44 : Int).natAbs < (16 + 1) * (16 + 1 + s.params.dStep) ∧ (-(16 : Int)) ≤ -4 := by
  simp only [running_iff]; decide +kernel

theorem witness_LimiterBoundsAngleRateAndAcceleration :
    (moving.chans[1]?).all (fun c : Channel => decide (c.theta.natAbs ≤ moving.params.thetaMax ∧
      c.step.natAbs ≤ moving.params.sMax)) = true ∧ (moving.chans[1]?).isSome = true := by decide +kernel

/-! ## Witnesses: the car line -/

/-- The line between cycles, within one, and in each of the exchanges that a matched echo finds. -/
theorem witness_CyclesBroadcastSetPointsAndFramesOpenTheirExchange :
    let sent := after .lineCycle moving
    Running moving ∧ Running six ∧ six.line.state ≠ .cycling ∧ sent.line.exch ≠ .quiet ∧
    moving.line.state = .cycling ∧ moving.line.exch = .quiet ∧ (moving.chans[11]?).isNone = true ∧
    (moving.chans[5]?).isSome = true ∧ (muster 0 (.echo .muster)).line.exch = .echo .muster ∧
    (muster 0 (.echo .muster)).line.muster = some ⟨0x30, 0⟩ ∧
    (withExch moving (.echo (.mreq 2 false 1 0))).line.exch = .echo (.mreq 2 false 1 0) ∧
    sent.line.exch = .echo (.set (setPoints moving)) ∧ isBound sent 1 = true ∧ isBound sent 0 = false ∧
    isBound moving 0 = false ∧ (withExch moving .cut).line.exch = .cut ∧
    (withExch moving (.takeEcho 3 none)).line.exch = .takeEcho 3 none ∧ moving.line.maint = [] ∧
    busy.line.maint = ⟨3, false, 17, 0, 41⟩ :: [] ∧ isBound busy 3 = true := by
  simp only [running_iff]; decide +kernel

/-- The first and second mismatch in a cycle and in the rounds 23 and 24 of a muster, a TAKE, the third mismatch, and
the halt as a command, on the line that carries cars 1 to 4. -/
theorem witness_EchoMismatchesAreCountedAndTheThirdHalts :
    let third := { busy with line := { busy.line with echoCount := 2 } }
    TableLaw busy ∧ BindingLaw busy ∧ Running busy ∧ busy.line.exch = .echo (.ask 2) ∧ busy.line.echoCount = 0 ∧
    third.line.echoCount = 2 ∧ third.line.exch = .echo (.ask 2) ∧ busy.line.state = .cycling ∧
    busy.ctl.mode = .active ∧ isBound busy 1 = true ∧ isBound busy 0 = false ∧
    (busy.chans[1]?).any (isNews .lineHalted) = true ∧ standby.ctl.mode = .standby ∧ standby.line.state = .cycling ∧
    Running (muster 24 (.echo (.park 9))) ∧ (muster 24 (.echo (.park 9))).line.echoCount < 2 ∧
    (muster 23 (.echo .claim)).line.state = .mustering ∧ (muster 23 (.echo .claim)).line.muster = some ⟨0x30, 23⟩ ∧
    (muster 23 (.echo .claim)).line.exch = .echo .claim ∧ (muster 24 (.echo (.park 9))).line.exch = .echo (.park 9) ∧
    (withExch moving (.echo (.name 9 15))).line.state ≠ .mustering ∧
    (withExch moving (.takeEcho 3 (some (.note, 0)))).line.exch = .takeEcho 3 (some (.note, 0)) := by
  refine ⟨witness_TableLaw, witness_BindingLaw, ?_⟩
  simp only [running_iff]; decide +kernel

/-- A frame cut off, its echo compared below the third mismatch and at it, in a muster and on a line that is OFF. -/
theorem witness_EchoMismatchesAreCountedAndTheThirdHalts_cut :
    let s := muster 0 .cut
    let third := { busy with line := { busy.line with echoCount := 2, exch := .cut } }
    Running s ∧ s.line.exch = .cut ∧ s.line.echoCount < 2 ∧ s.line.state = .mustering ∧
    Running (withExch six .cut) ∧ (withExch six .cut).line.exch = .cut ∧ (withExch six .cut).line.echoCount < 2 ∧
    (withExch six .cut).line.state ≠ .mustering ∧ TableLaw third ∧ BindingLaw third ∧ Running third ∧
    third.line.exch = .cut ∧ third.line.echoCount = 2 := by
  refine ⟨?_, ?_, ?_, ?_, ?_, ?_, ?_, ?_, witness_TableLaw,
    ⟨witness_BindingLaw.1, fun x a h => by simp at h, witness_BindingLaw.2.2⟩, ?_, ?_, ?_⟩ <;>
  (try simp only [running_iff]) <;> decide +kernel

/-- Car 3 asked: its sample enters the ring; a tracking error of trackBand, one more, and one more at trackLimit. -/
theorem witness_GoodStatsActOnTheirCar :
    let s := withExch tunnel (.stat 4)
    let tried (n : Nat) : State := { s with chans := s.chans.modify 3 (fun c => { c with trackCount := n }) }
    Running s ∧ s.line.exch = .stat (3 + 1) ∧ (s.chans[3]?).isSome = true ∧ (s.line.nodes[3]?).isSome = true ∧
    sensingCar s = some 3 ∧ (s.cars[3]?).map Car.front = some 7100 ∧ s.ctl.run = true ∧
    -2147483648 ≤ s.odo.pos - 7100 ∧
      s.chans[3]?.map (fun c : Channel => (c.state, c.sent, c.trackCount)) = some (.following, 1960, 0) ∧
    (clamp 4460 (-12000) 12000 - 1960).natAbs ≤ s.params.trackBand ∧ 0 < s.params.trackLimit ∧
    s.params.trackBand < (clamp 4461 (-12000) 12000 - 1960).natAbs ∧ countUp 23 200 < s.params.trackLimit ∧
    s.params.trackLimit ≤ countUp 24 200 ∧ (tried 24).chans[3]?.map Channel.trackCount = some 24 ∧
    (s.cars[3]?).map Car.sensing = some true ∧ (s.cars[2]?).map Car.sensing = some false ∧
    isBound s 3 = true ∧ isBound (withExch six (.stat 4)) 3 = false ∧
    (withExch moving (.stat 15)).line.exch = .stat (14 + 1) ∧ Running (withExch six (.stat 4)) ∧
    s.params.faultPolicy = .whole ∧ (s.chans[1]?).map Channel.state = some .following := by
  simp only [running_iff]; decide +kernel

/-- Car 3 is the only sensing car. -/
theorem witness_GoodStatsActOnTheirCar_sensing : ∀ j b, tunnel.cars[j]? = some b → b.sensing = true → j = 3 :=
  at_place (P := fun j (b : Car) => b.sensing = true → j = 3) (by decide +kernel)

/-- The second and the third miss, a transfer awaited, and the tracking test at its two bounds. -/
theorem witness_MissesLoseNodesAndTransfersComplete :
    let missed (n : Nat) : State := { withExch moving (.stat 4) with
      line := { (withExch moving (.stat 4)).line with nodes := moving.line.nodes.modify 3 (fun x => { x with
        miss := n }) } }
    let queued := { moving with line := { moving.line with maint := [⟨3, false, 17, 0, 41⟩], exch := .mrsp } }
    Running moving ∧ isBound moving 3 = true ∧
    moving.chans[3]?.map (fun c : Channel => (c.state, c.sent, c.angle, c.trackCount)) =
      some (.following, 1960, some 1960, 0) ∧
    (4460 - 1960 : Int).natAbs ≤ moving.params.trackBand ∧ moving.params.trackBand < (4461 - 1960 : Int).natAbs ∧
    countUp 23 200 < moving.params.trackLimit ∧ moving.params.trackLimit ≤ countUp 24 200 ∧
    (missed 1).line.exch = .stat (3 + 1) ∧ (missed 1).line.nodes[3]?.map NodeLink.miss = some 1 ∧
    (missed 2).line.nodes[3]?.map NodeLink.miss = some 2 ∧ queued.line.exch = .mrsp ∧
    queued.line.maint = ⟨3, false, 17, 0, 41⟩ :: [] ∧ isBound six 3 = false ∧
    (withExch moving (.stat 15)).line.exch = .stat (14 + 1) ∧ (moving.chans[3]?).any (isNews .nodeLost) = true ∧
    (moving.chans[1]?).any (fun c : Channel => c.state == .following) = true ∧ moving.params.faultPolicy = .whole ∧
    (moving.chans[0]?).any (fun c : Channel => c.state == .notFitted) = true ∧ moving.line.exch ≠ .stat (3 + 1) := by
  simp only [running_iff]; decide +kernel

/-- Rounds 23 and 24; a serial of the formation, one held, one not, and one with no address free. -/
theorem witness_MusterRoundsNameAndEnd :
    let s := muster 23 .round
    let held := { s with line := { s.line with foreign := { s.line.foreign with at15 := some 39800004 } } }
    let full := { s with line := { s.line with foreign := { at13 := some 1, at14 := some 2, at15 := some 3 } } }
    Running s ∧ s.line.state = .mustering ∧ s.line.muster = some ⟨0x30, 23⟩ ∧ s.line.exch = .round ∧
    ownSerial s 4 = some 40017455 ∧ held.line.foreign.get 15 = some 39800004 ∧
    (full.line.foreign.get 13 ≠ none ∧ full.line.foreign.get 14 ≠ none ∧ full.line.foreign.get 15 ≠ none) ∧ 23 < 24 ∧
    (muster 24 .round).line.muster = some ⟨0x30, 24⟩ ∧
    (muster 23 (.echo (.name 40017455 5))).line.exch = .echo (.name 40017455 (4 + 1)) ∧
    isBound (muster 23 (.echo (.name 40017455 5))) 4 = false ∧
    (s.chans[4]?).any (fun c : Channel => c.faults == .empty) = true ∧
    isBound (after (.frameEcho true) (muster 1 (.echo (.name 40017455 5)))) 4 = true ∧
    (muster 24 (.echo (.name 39800004 15))).line.exch = .echo (.name 39800004 15) ∧
    (muster 24 (.echo (.park 9))).line.exch = .echo (.park 9) ∧ s.line.parked.length < 24 := by
  simp only [running_iff]; decide +kernel

/-- The serial of car 4 alone, a serial of no car, held nowhere, at one address, and the highest free address. -/
theorem witness_MusterRoundsNameAndEnd_serials :
    let s := muster 23 .round
    let f : Foreign := { at13 := none, at14 := some 7, at15 := some 39800004 }
    (∀ j, ownSerial s j = some 40017455 → j = 4) ∧ (∀ k, ownSerial s k ≠ some 39800004) ∧
    (∀ a, s.line.foreign.get a ≠ some 39800004) ∧ (∀ b, f.get b = some 39800004 → b = 15) ∧
    (13 ≤ 15 ∧ 15 ≤ 15 ∧ s.line.foreign.get 15 = none ∧ ∀ b, 15 < b → b ≤ 15 → s.line.foreign.get b ≠ none) ∧
    (13 ≤ 13 ∧ 13 ≤ 15 ∧ f.get 13 = none ∧ ∀ b, 13 < b → b ≤ 15 → f.get b ≠ none) := by
  refine ⟨own_once (by decide +kernel), carOfSerial_none.1 (by decide +kernel),
    Foreign.addressOf_none.1 (by decide +kernel), fun b h => ?_, Foreign.highestFree_some.1 (by decide +kernel),
    Foreign.highestFree_some.1 (by decide +kernel)⟩
  have h1 := foreign_entry h
  simp only [List.mem_cons, List.not_mem_nil, or_false] at h1
  rcases h1 with rfl | rfl | rfl
  · simp [Foreign.get] at h
  · exact absurd h (by decide)
  · rfl

/-- The window with each key, a delivered NAME of a join, and the alert queue with seven and eight records. -/
theorem witness_CallWindowsTakeAlertsAndJoins :
    let s := withExch moving .window
    let open3 := { s with line := { s.line with nodes := s.line.nodes.set 3 ⟨none, 0⟩ } }
    let full := { s with line := { s.line with foreign := { at13 := some 1, at14 := some 2, at15 := some 3 } } }
    let named := withExch moving (.echo (.name 40017388 4))
    let alerts (n : Nat) : State := { withExch moving (.alrt 3) with
      line := { (withExch moving (.alrt 3)).line with alerts := List.replicate n ⟨2, .note, 0, 0⟩ } }
    Running s ∧ s.line.exch = .window ∧ ownSerial open3 3 = some 40017388 ∧ isBound open3 3 = false ∧
    ownSerial s 3 = some 40017388 ∧ isBound s 3 = true ∧ s.params.faultPolicy = .whole ∧
    (s.chans[1]?).map Channel.state = some .following ∧
    (s.chans[3]?).any (fun c : Channel => c.state != .failed && c.state != .notFitted) = true ∧
    s.line.foreign.get 15 = some 39800004 ∧
    (full.line.foreign.get 13 ≠ none ∧ full.line.foreign.get 14 ≠ none ∧ full.line.foreign.get 15 ≠ none) ∧
    named.line.state = .cycling ∧ named.line.exch = .echo (.name 40017388 (3 + 1)) ∧ 3 < named.line.nodes.length ∧
    (named.chans[3]?).isSome = true ∧ (alerts 7).line.exch = .alrt 3 ∧ isBound (alerts 7) (3 - 1) = true ∧
    (alerts 7).line.alerts.length < 8 ∧ 8 ≤ (alerts 8).line.alerts.length ∧ isBound (alerts 7) (1 - 1) = false ∧
    (withExch moving (.takeEcho 3 (some (.actuator, 7)))).line.exch = .takeEcho 3 (some (.actuator, 7)) ∧
    (s.chans[3]?).any (isNews .nodeRestart) = true ∧ (withExch moving (.echo (.name 9 15))).line.state = .cycling ∧
    (withExch moving (.echo (.park 9))).line.state = .cycling ∧ (moving.chans[2]?).any (isNews .alert) = true := by
  simp only [running_iff]; decide +kernel

/-- The serial of car 3 alone; a serial of no car, the table once its entry is removed, and the highest address then
free. -/
theorem witness_CallWindowsTakeAlertsAndJoins_serials :
    let s := withExch moving .window
    let f := s.line.foreign.drop 39800004
    (∀ j, ownSerial s j = some 40017388 → j = 3) ∧ (∀ k, ownSerial s k ≠ some 39800004) ∧
    (∀ b, f.get b = if s.line.foreign.get b = some 39800004 then none else s.line.foreign.get b) ∧
    (13 ≤ 15 ∧ 15 ≤ 15 ∧ f.get 15 = none ∧ ∀ b, 15 < b → b ≤ 15 → f.get b ≠ none) :=
  ⟨own_once (by decide +kernel), carOfSerial_none.1 (by decide +kernel), Foreign.get_drop _ _,
    Foreign.highestFree_some.1 (by decide +kernel)⟩

/-! ## Witnesses: the receiver and the transmitter -/

/-- A FIFO of 63 and of 64 characters, the receiver waiting or not, the gap timer running or not. -/
theorem witness_CharactersAndGapsEnterTheFifo :
    let open' (n : Nat) (asm : Assembler) : State := { six with link := { six.link with
      waitIdle := false, gapRunning := true, fifo := List.replicate n (cleanChar 1), asm := asm } }
    Running six ∧ six.link.waitIdle = true ∧ six.link.gapRunning = false ∧
      (open' 63 .hunt).link.waitIdle = false ∧
    (open' 63 .hunt).link.fifo.length < 64 ∧ 64 ≤ (open' 64 .hunt).link.fifo.length ∧
    (open' 1 .hunt).link.gapRunning = true ∧ (open' 1 .hunt).link.fifo = [] ++ [cleanChar 1] ∧
    (open' 0 .hunt).link.fifo = [] ∧ (open' 0 .length).link.asm ≠ .hunt := by
  simp only [running_iff]; decide +kernel

/-- LENGTH 1, 2, 250 and 251; the last and the last but one character of a frame, with a good and a bad CRC. -/
theorem witness_TheAssemblerTakesCharacters :
    let f : Frame := { kind := 1, tag := 7, body := [] }
    let crc := bytes2 (crc16 (coveredBytes f))
    let ends (b : Byte) : State := { six with link := { six.link with
      fifo := [cleanChar b], asm := .collect (coveredBytes f ++ crc.take 1) 1 false } }
    Running six ∧ six.link.fifo = [] ∧ (ends (crc.getD 1 0)).link.fifo = cleanChar (crc.getD 1 0) :: [] ∧
    (cleanChar 1).gap = false ∧ (2 : Byte).toNat = 2 ∧ (250 : Byte).toNat = 250 ∧ ¬(2 ≤ (1 : Byte).toNat) ∧
    ¬((251 : Byte).toNat ≤ 250) ∧ (cleanChar 2).isMarked = false ∧
      ({ cleanChar 2 with parity := true }).isMarked = true ∧
    f.body.length ≤ 248 ∧ (ends 0).link.asm = .collect (coveredBytes f ++ crc.take 1) 1 false ∧
    (coveredBytes f ++ crc.take 1) ++ [crc.getD 1 0] = coveredBytes f ++ bytes2 (crc16 (coveredBytes f)) ∧
    (coveredBytes f ++ crc.take 1) ++ [crc.getD 1 0 + 1] = coveredBytes f ++ (crc.take 1 ++ [crc.getD 1 0 + 1]) ∧
    (crc.take 1 ++ [crc.getD 1 0 + 1]).length = 2 ∧
      crc.take 1 ++ [crc.getD 1 0 + 1] ≠ bytes2 (crc16 (coveredBytes f)) := by
  simp only [running_iff]; decide +kernel

/-- A character with the gap mark in each state of the assembler. -/
theorem witness_TheAssemblerTakesCharacters_gap :
    let c (b : Byte) : RxChar := { cleanChar b with gap := true }
    let at1 (a : Assembler) (b : Byte) : State := { six with link := { six.link with fifo := [c b], asm := a } }
    (at1 .hunt 0xC5).link.fifo = c 0xC5 :: [] ∧ (c 0xC5).gap = true ∧ (c 0xC5).isMarked = false ∧
    (c 0xC4).data ≠ 0xC5#8 ∧ (at1 .length 2).link.asm = .length ∧ ¬(2 ≤ (c 1).data.toNat) ∧
    (at1 (.collect [2, 1] 3 false) 7).link.asm = .collect [2, 1] 3 false ∧
    (at1 (.collect [2, 1, 7, 0] 1 false) 7).link.asm = .collect [2, 1, 7, 0] 1 false := by decide +kernel

/-- A reply with and without a request waiting, a completion, a notice, nothing to send, and a Reset on its way. -/
theorem witness_TheTransmitterChoosesAndResetTakesEffect :
    let stopped (s : State) : State := { s with link := { s.link with sending := none } }
    let replied := after (.queryStatus 7) six
    let waits := after (.rollCall 8) replied
    let done := { six with link := { six.link with
      sending := none, completions := [replyFrame 0x31 1 .ok .none 0 []] } }
    let resetting := after (.reset 1) six
    let going := after (.frameSent Pins.low) resetting
    LinkFree six ∧ six.link.sending ≠ none ∧ going.inReset = false ∧ going.link.resetWaiting = true ∧
    going.link.reply = none ∧ going.link.sending ≠ none ∧ replied.link.resetWaiting = false ∧
    (stopped resetting).link.resetWaiting = true ∧ (stopped resetting).link.reply.isSome = true ∧
    (stopped replied).link.reply.isSome = true ∧ replied.link.slot = none ∧
    (stopped waits).link.reply.isSome = true ∧ waits.link.slot.isSome = true ∧ waits.link.resetWaiting = false ∧
    done.link.reply = none ∧ done.link.completions.isEmpty = false ∧ State.reset.link.sending = none ∧
    State.reset.link.reply = none ∧ State.reset.link.completions = [] ∧
    (State.reset.link.notices.get .mode).pending = true ∧ (idle six).link.sending = none ∧
    (∀ k ∈ noticeOrder, ((idle six).link.notices.get k).pending = false) := by
  simp only [linkFree_iff]; decide +kernel

/-- The laws that the bodies of the notices rest on; a car with an unreported fault, a capture and a planner record.
-/
theorem witness_NoticesCarryTheirState :
    FormationLaw busy ∧ TableLaw busy ∧ OdometerLaw busy ∧ CaptureLaw busy ∧ GeometryLaw busy ∧ LineLaw busy ∧
    busy.odo.captures[0]? = some ⟨4, 996800, 4950⟩ ∧ (busy.plan.records[1]?).isSome = true ∧
    ((after (.nodeLost 3) busy).chans[3]?).map Channel.unreported = some true :=
  ⟨witness_FormationLaw, witness_TableLaw, witness_OdometerLaw, witness_CaptureLaw.1, witness_GeometryLaw,
    witness_LineLaw, by decide +kernel⟩

end Sys2Proof.Tests
end

namespace Sys2Proof.Machine

open Sys2Proof

/-! ## What a step does: the operation of its command between two choices of the transmitter -/

/-- The operation by which an event of the outside acts on the blocks behind the host link; none for the requests, for
the host link's own events and for RESET_N. -/
def eventOf : Instr → Option (State → State)
  | .inhibitSample asserted => some (sampleInhibit asserted)
  | .inhibitAsserted => some inhibitAsserted
  | .inhibitReleased => some inhibitReleased
  | .markerSample high => some (sampleMarker high)
  | .markerRisingEdge => some markerRises
  | .pulseDecode channel levels => some (decodePulse channel levels)
  | .odometrySlot => some takeSlot
  | .tachoFailed channel => some (failTacho channel)
  | .plannerComputation => some computePlan
  | .telemetryCountdown => some hearReport
  | .targetListArrival => some takeTargets
  | .lineCycle => some startCycle
  | .frameEcho isMatch => some (hearEcho isMatch)
  | .lineHalt => some haltCarrying
  | .stat address angle condition flags acceleration => some (hearStat address angle condition flags acceleration)
  | .tracking car => some (testTracking car)
  | .replySilence => some noReply
  | .nodeLost car => some (hearNodeLost car)
  | .mrsp address accepted value => some (hearMrsp address accepted value)
  | .claimRound outcome => some (hearRound outcome)
  | .musterEnd => some hearMusterEnd
  | .contentionKey key => some (hearKey key)
  | .alrt address kind detail => some (hearAlrt address kind detail)
  | _ => none

/-- An event acts by its operation. -/
theorem exec_event {c : Instr} {f : State → State} (s : State) (h : eventOf c = some f) : exec c s = act f s := by
  cases c <;> simp only [eventOf, Option.some.injEq, reduceCtorEq] at h <;> (subst h; rfl)

/-- A request's command acts by the end of its frame. -/
theorem exec_submit {c : Instr} {tag : Byte} {r : Request} (s : State) (h : commandRequest c = some (tag, r)) :
    exec c s = act (submit tag r) s := by
  cases c <;> simp only [commandRequest, Option.some.injEq, Prod.mk.injEq, reduceCtorEq] at h <;>
    (obtain ⟨rfl, rfl⟩ := h; rfl)

/-- What a predicate of the part has to stand for every step to keep it, where it reads nothing of the host link: the
parts that every command is made of. A request reaches its owner only past the link's checks (R176). -/
structure KeptByParts (P : State → Prop) : Prop where
  queue : ∀ s q, P s → P { s with pending := q }
  reset : ∀ s q pins, P s → P (State.afterReset q pins)
  held : ∀ s, P s → P (holdInReset s)
  link : ∀ s l, P s → P (s.setLink l)
  reported : ∀ s, P s → P (clearUnreported s)
  serve : ∀ tag r s, lengthAgrees r = true → admitted r s = true → reservedFault r = none → P s → P (serve tag r s)
  event : ∀ c f s, eventOf c = some f → P s → P (f s)

namespace KeptByParts

variable {P : State → Prop} (k : KeptByParts P)
include k

theorem respond {s : State} (f : Frame) (h : P s) : P (s.respond f) := k.link s _ h

theorem handleRequest (tag : Byte) (r : Request) {s : State} (h : P s) : P (handleRequest tag r s) := by
  unfold Machine.handleRequest
  split
  · exact k.respond _ h
  · split
    · exact k.respond _ h
    · split
      · exact k.respond _ h
      · next hl ha _ hr => exact k.serve tag r s (by simpa using hl) (by simpa using ha) hr h

theorem handleFrame (f : Frame) {s : State} (h : P s) : P (handleFrame f s) := by
  unfold Machine.handleFrame
  split
  · exact k.respond _ h
  · exact k.respond _ h
  · exact k.handleRequest _ _ h

theorem receive (f : Frame) {handle : State → State} (hh : ∀ s, P s → P (handle s)) {s : State} (h : P s) :
    P (receive f handle s) := by
  rcases receive_cases f handle s with e | e | e <;> rw [e]
  · exact k.link s _ h
  · exact hh s h
  · exact k.link s _ h

theorem acceptFrame (f : Frame) {s : State} (h : P s) : P (acceptFrame f s) :=
  k.receive f (fun _ => k.handleFrame f) h

theorem submit (tag : Byte) (r : Request) {s : State} (h : P s) : P (submit tag r s) :=
  k.receive _ (fun _ => k.handleRequest tag r) h

theorem handOver {s : State} (h : P s) : P (handOver s) := by
  unfold Machine.handOver
  split
  · split
    · exact k.handleFrame _ (k.link s _ h)
    · exact h
  · exact h

theorem sendNotice (n : NoticeKind) {s : State} (h : P s) : P (sendNotice n s) := by
  have ht := k.link _ { s.link with notices := s.link.notices.set n .clear,
                                    sending := some (frameChars (noticeFrame s n)) } h
  unfold Machine.sendNotice
  split
  · exact k.reported _ ht
  · exact ht

theorem choose {s : State} (h : P s) : P (choose s) := by
  rcases choose_cases s with ⟨f, -, e⟩ | ⟨-, f, rest, -, e⟩ | ⟨-, -, n, -, e⟩ | ⟨-, -, -, e⟩ <;> rw [e]
  · exact k.handOver (k.link _ _ (k.link _ _ h))
  · exact k.link _ _ (k.link _ _ h)
  · exact k.sendNotice n h
  · exact h

theorem chooseIfIdle {s : State} (h : P s) : P (chooseIfIdle s) := by
  unfold Machine.chooseIfIdle
  split
  · exact k.choose h
  · exact h

theorem act {f : State → State} (hf : ∀ s, P s → P (f s)) {s t : State} (h : P s) (e : act f s = .next t) : P t := by
  unfold Machine.act unlessHeld at e
  obtain rfl := Host.Outcome.next.inj e
  split
  · exact h
  · exact k.chooseIfIdle (hf _ (k.chooseIfIdle h))

theorem assembleGap {s : State} (h : P s) : P (assembleGap s) := by
  unfold Machine.assembleGap
  split
  · exact h
  · exact k.link _ _ h
  · exact k.link _ _ h

theorem endFrame (buffer : List Byte) (spoiled : Bool) {s : State} (h : P s) : P (endFrame buffer spoiled s) := by
  unfold Machine.endFrame
  split
  · exact k.link _ _ h
  · split
    · exact k.acceptFrame _ (k.link _ _ h)
    · exact k.link _ _ h

theorem assemble (c : RxChar) {s : State} (h : P s) : P (assemble c s) := by
  unfold Machine.assemble
  split
  · split
    · exact k.link _ _ h
    · exact h
  · split
    · exact k.link _ _ h
    · exact k.link _ _ h
  · split
    · exact k.endFrame _ _ h
    · exact k.link _ _ h

theorem takeCharacter {s : State} (h : P s) : P (takeCharacter s) := by
  unfold Machine.takeCharacter
  split
  · exact h
  · next c rest _ =>
    have ht := k.assemble c (k.link s { s.link with fifo := rest } h)
    dsimp only
    split
    · exact k.assembleGap ht
    · exact ht

theorem takeLast {s : State} (h : P s) : P (takeLast s) := by
  unfold Machine.takeLast
  split
  · exact k.takeCharacter h
  · exact h

theorem hearGap {s : State} (h : P s) : P (hearGap s) := by
  have ht := k.link s { s.link with gapRunning := false, fifo := markNewest s.link.fifo } h
  unfold Machine.hearGap Machine.expireGap
  split
  · dsimp only
    split
    · exact k.assembleGap ht
    · exact ht
  · exact h

theorem frameSent (pins : Pins) {s : State} (h : P s) : P (frameSent pins s) := by
  unfold Machine.frameSent
  split
  · exact k.reset s _ _ h
  · exact k.choose (k.link _ _ h)

/-- A command keeps what its parts keep. -/
theorem exec (c : Instr) {s t : State} (h : P s) (e : exec c s = .next t) : P t := by
  cases hr : commandRequest c with
  | some x => exact k.act (fun _ => k.submit x.1 x.2) h (exec_submit s hr ▸ e)
  | none =>
    cases he : eventOf c with
    | some f => exact k.act (fun u => k.event c f u he) h (exec_event s he ▸ e)
    | none =>
      cases c <;> simp only [commandRequest, eventOf, reduceCtorEq] at hr he
      case unknownKind kind tag body => exact k.act (fun _ => k.acceptFrame _) h e
      case resetN pins => exact Host.Outcome.next.inj e ▸ k.reset s _ _ h
      case resetNAsserted => exact Host.Outcome.next.inj e ▸ k.held s h
      case frameSent pins =>
        obtain rfl := Host.Outcome.next.inj e
        split
        · exact h
        · exact k.frameSent pins h
      case characterReceived data parity stop => exact k.act (fun _ => k.link _ _) h e
      case rxdIdleLevel => exact k.act (fun _ => k.link _ _) h e
      case characterTaken => exact k.act (fun _ => k.takeCharacter) h e
      case frameEnd => exact k.act (fun _ => k.takeLast) h e
      case gap => exact k.act (fun _ => k.hearGap) h e

/-- A step keeps what the parts of every command keep. -/
theorem step {s t : State} (h : P s) (e : step s = .next t) : P t := by
  unfold Machine.step at e
  split at e
  · exact Host.Outcome.next.inj e ▸ h
  · exact k.exec _ (k.queue s _ h) e

end KeptByParts

end Sys2Proof.Machine

namespace Sys2Proof.Machine

open Sys2Proof

/-! ## The blocks beside the train: what leaves the formation, the parameters, the planner, the channels and the line -/

/-- The blocks that hold the train: the formation, the parameter set, the planner, the channels and the car line. -/
def State.train (s : State) : List Car × Params × Planner × List Channel × CarLine :=
  (s.cars, s.params, s.plan, s.chans, s.line)

@[simp] theorem State.setOdo_train (s : State) (x : Odometer) : (s.setOdo x).train = s.train := rfl
@[simp] theorem State.setGeo_train (s : State) (x : GeoStore) : (s.setGeo x).train = s.train := rfl
@[simp] theorem State.setRing_train (s : State) (x : List Sample) : (s.setRing x).train = s.train := rfl
@[simp] theorem State.raise_train (s : State) (k : NoticeKind) (f : Half) : (s.raise k f).train = s.train := rfl
@[simp] theorem State.reevaluate_train (s : State) : s.reevaluate.train = s.train := rfl

@[simp] theorem State.raiseIf_train (s : State) (c : Bool) (k : NoticeKind) (f : Half) :
    (s.raiseIf c k f).train = s.train := by cases c <;> rfl

/-! ### The geometry store and the history ring -/

@[simp] theorem evaluateLookAhead_train (s : State) : (evaluateLookAhead s).train = s.train := by
  rcases evaluateLookAhead_cases s with h | ⟨-, -, h⟩ | ⟨-, -, h⟩ <;> rw [h] <;> rfl

@[simp] theorem releaseSegments_train (s : State) : (releaseSegments s).train = s.train := by
  simp [releaseSegments]

@[simp] theorem takeSample_train (accel : Option Int) (s : State) : (takeSample accel s).train = s.train := by
  unfold takeSample
  split
  · dsimp only; split <;> rfl
  · rfl

@[simp] theorem trimRing_train (s : State) : (trimRing s).train = s.train := rfl

theorem handleOpenBatch_train (tag : Byte) (declared : Word) (s : State) :
    (handleOpenBatch tag declared s).train = s.train := by
  unfold handleOpenBatch
  split <;> rfl

theorem handleAddSegments_train (tag count : Byte) (records : List SegmentWire) (s : State) :
    (handleAddSegments tag count records s).train = s.train := by
  unfold handleAddSegments
  split
  · rfl
  · split
    · rfl
    · split
      · rfl
      · split <;> rfl

theorem handleCloseBatch_train (tag count : Byte) (s : State) : (handleCloseBatch tag count s).train = s.train := by
  unfold handleCloseBatch
  split
  · rfl
  · split
    · rfl
    · exact evaluateLookAhead_train _

theorem handleTruncate_train (tag : Byte) (x : Word) (s : State) : (handleTruncate tag x s).train = s.train := by
  unfold handleTruncate
  dsimp only
  split
  · rfl
  · split
    · rfl
    · split
      · rfl
      · exact evaluateLookAhead_train _

/-! ### The odometer -/

@[simp] theorem failTacho_train (n : TachoName) (s : State) : (failTacho n s).train = s.train := by
  unfold failTacho
  split <;> rfl

@[simp] theorem evaluateTrust_train (s : State) : (evaluateTrust s).train = s.train := by
  rcases evaluateTrust_cases s with h | ⟨-, h⟩
  · rw [h]
  · rw [h]; rfl

@[simp] theorem expireCaptures_train (s : State) : (expireCaptures s).train = s.train := by
  simp [expireCaptures]

@[simp] theorem slotInRun_train (c : SlotChoice) (s : State) : (slotInRun c s).train = s.train := by
  simp [slotInRun]

theorem takeSlot_train (s : State) : (takeSlot s).train = s.train := by
  simp only [takeSlot, apply_ite State.train, slotInRun_train, State.setOdo_train, failTacho_train, ite_self]

@[simp] theorem captureEdge_train (s : State) : (captureEdge s).train = s.train := by
  unfold captureEdge
  split
  · split
    · simp [appendCapture]
    · rfl
  · rfl

@[simp] theorem acceptHigh_train (s : State) : (acceptHigh s).train = s.train := by simp [acceptHigh]

theorem sampleMarker_train (high : Bool) (s : State) : (sampleMarker high s).train = s.train := by
  unfold sampleMarker
  split
  · rfl
  · split
    · rfl
    · split
      · exact acceptHigh_train s
      · rfl

theorem markerRises_train (s : State) : (markerRises s).train = s.train := by
  unfold markerRises
  split
  · rfl
  · exact acceptHigh_train s

@[simp] theorem applyFix_train (n : Nat) (d : Int) (s : State) : (applyFix n d s).train = s.train := by
  simp [applyFix]

theorem handleResolveCapture_train (tag : Byte) (number : Half) (x : Word) (s : State) :
    (handleResolveCapture tag number x s).train = s.train := by
  unfold handleResolveCapture
  dsimp only
  split
  · rfl
  · split
    · exact applyFix_train _ _ _
    · split
      · split <;> rfl
      · rfl

/-! ### The mode controller and the host link -/

theorem handleCommission_train (tag : Byte) (s : State) : (handleCommission tag s).train = s.train := by
  unfold handleCommission
  split <;> rfl

theorem handleReturnToSetup_train (tag : Byte) (s : State) : (handleReturnToSetup tag s).train = s.train := by
  unfold handleReturnToSetup
  split <;> rfl

theorem handleStartRun_train (tag : Byte) (origin : Word) (s : State) :
    (handleStartRun tag origin s).train = s.train := by
  unfold handleStartRun
  split <;> rfl

theorem handleEnableTilt_train (tag : Byte) (s : State) : (handleEnableTilt tag s).train = s.train := by
  unfold handleEnableTilt
  split
  · rfl
  · split <;> rfl

theorem handleResumeTilt_train (tag : Byte) (s : State) : (handleResumeTilt tag s).train = s.train := by
  unfold handleResumeTilt
  split <;> rfl

@[simp] theorem countReport_train (s : State) : (countReport s).train = s.train := by
  unfold countReport
  split
  · rfl
  · dsimp only; split <;> rfl

theorem hearReport_train (s : State) : (hearReport s).train = s.train := by
  unfold hearReport
  split
  · exact countReport_train s
  · rfl

/-! ## The moves of the train -/

/-- The states of a car whose node is bound and that has not failed (R120). -/
def ChanState.isFit : ChanState → Bool
  | .centred | .following | .returning => true
  | .notFitted | .absent | .failed => false

/-- What the state of a channel may become while its car and its binding stand: the same, another state of a fit car,
FAILED where the car tilts, or fit again after a fault where the node is bound (R120, R134, R137). -/
def MayBecome (bound : Bool) (old new : ChanState) : Prop :=
  new = old ∨ (old.isFit = true ∧ new.isFit = true) ∨ (old ≠ .notFitted ∧ new = .failed) ∨
    (old = .failed ∧ bound = true ∧ new.isFit = true)

/-- The line sends no NAME (R144). -/
def Exchange.namesNone (e : Exchange) : Prop := ∀ x a, e ≠ .echo (.name x a)

/-- The moves that every step is made of, as far as the train's blocks go; `step_moves` says so. -/
inductive TrainMove : State → State → Prop where
  /-- The blocks beside the train change. -/
  | beside {s t : State} (h : t.train = s.train) : TrainMove s t
  /-- The planner writes one record per car, or leaves its records (R116, R117). -/
  | plan {s : State} (p : Planner)
      (h : p.records.length = s.cars.length ∨ p.records.length = s.plan.records.length) : TrainMove s (s.setPlan p)
  /-- The line's counts and queues change, and the exchange goes on without a NAME. -/
  | line {s : State} (l : CarLine) (hn : l.nodes = s.line.nodes) (hf : l.foreign = s.line.foreign)
      (he : l.exch = s.line.exch ∨ l.exch.namesNone) : TrainMove s (s.setLine l)
  /-- A miss count changes and stays below the third miss (R154). -/
  | misses {s : State} (l : List NodeLink) (hs : l.map NodeLink.serial = s.line.nodes.map NodeLink.serial)
      (hm : (∀ n ∈ s.line.nodes, n.miss ≤ 2) → ∀ n ∈ l, n.miss ≤ 2) :
      TrainMove s (s.setLine { s.line with nodes := l })
  /-- A car is named at its own address (R149, R160). -/
  | nameCar {s : State} (x : Serial) (k : Nat) (h : carOfSerial s x = some k) :
      TrainMove s (sendFrame (.name x (k + 1)) s)
  /-- A node that is no car's is named at the one foreign address that may hold it (R149, R161). -/
  | nameForeign {s : State} (x : Serial) (a : Nat) (ha : 12 < a) (h : carOfSerial s x = none)
      (hb : s.line.foreign.get a = some x ∨ ∀ b, s.line.foreign.get b ≠ some x) :
      TrainMove s (sendFrame (.name x a) s)
  /-- A serial loses its foreign address (R161, step 1). -/
  | forget {s : State} (x : Serial) : TrainMove s (s.setLine { s.line with foreign := s.line.foreign.drop x })
  /-- The channels change under standing bindings. -/
  | chans {s : State} (l : List Channel) (hl : l.length = s.chans.length)
      (h : ∀ k c d, s.chans[k]? = some c → l[k]? = some d → MayBecome (isBound s k) c.state d.state) :
      TrainMove s (s.setChans l)
  /-- The car named on the line is bound (R149, R160). -/
  | bind {s : State} (x : Serial) (a : Nat) (h : s.line.exch = .echo (.name x a)) (ha : a ≤ 12) :
      TrainMove s (bindCar (a - 1) x s)
  /-- The foreign address named on the line is taken (R149, R161). -/
  | foreign {s : State} (x : Serial) (a : Nat) (h : s.line.exch = .echo (.name x a)) (ha : 12 < a) :
      TrainMove s (setForeign a (some x) s)
  /-- A binding ends with a fault of its car (R155, R160). -/
  | lose {s : State} (k : Nat) (kind : FaultKind) : TrainMove s (addFault k kind (unbind k s))
  /-- A muster ends every binding and empties the line's tables (R124, R148). -/
  | dissolve {s : State} (m : Option Muster) :
      TrainMove s ((s.setChans (s.chans.map Channel.toAbsent)).setLine
        { s.line with nodes := noNodes s, foreign := .empty, parked := [], muster := m })
  /-- A formation that passes its checks is loaded (R5, R6). -/
  | load {s : State} (records : List CarWire) (h : formationFault records.length records = none) :
      TrainMove s (loadFormation (records.map carOfWire) s)
  /-- A parameter set that passes its checks is in force (R10, R11). -/
  | params {s : State} (v : Vector Word 28) (h : paramsFault v = none) : TrainMove s (s.setParams (paramsOf v))
  /-- A reset (R35). -/
  | reset {s : State} (q : List Instr) (pins : Pins) : TrainMove s (State.afterReset q pins)

/-- One move of the train after another. -/
def TrainMoves : State → State → Prop := Relation.ReflTransGen TrainMove

namespace TrainMoves

theorem refl {s : State} : TrainMoves s s := Relation.ReflTransGen.refl

theorem of_move {s t : State} (h : TrainMove s t) : TrainMoves s t := Relation.ReflTransGen.single h

theorem trans {s t u : State} (h : TrainMoves s t) (g : TrainMoves t u) : TrainMoves s u :=
  Relation.ReflTransGen.trans h g

theorem beside {s t : State} (h : t.train = s.train) : TrainMoves s t := of_move (.beside h)

/-- Moves, and then a change beside the train. -/
theorem andBeside {s t u : State} (h : TrainMoves s t) (e : u.train = t.train) : TrainMoves s u :=
  h.trans (beside e)

end TrainMoves

end Sys2Proof.Machine

namespace Sys2Proof.Machine

open Sys2Proof

/-! ## The channels under standing bindings -/

theorem MayBecome.same {bound : Bool} {old new : ChanState} (h : new = old) : MayBecome bound old new := .inl h

theorem Channel.toReturning_mayBecome (bound : Bool) (c : Channel) :
    MayBecome bound c.state c.toReturning.state := by
  unfold Channel.toReturning
  split
  · next h => exact .inr (.inl ⟨by rw [h]; rfl, rfl⟩)
  · exact .same rfl

/-- A target list moves fit cars alone, and leaves them fit (R125, R128). -/
theorem arrive_mayBecome (bound : Bool) (p : Params) (allowed : Bool) (target : Int) (c : Channel) :
    MayBecome bound c.state (arrive p allowed target c).state := by
  cases h : c.state with
  | notFitted => exact .same (by simp [arrive, h])
  | absent => exact .same (by simp [arrive, h])
  | failed => exact .same (by simp [arrive, h])
  | following => exact .same (by simp [arrive, h, limiterPass])
  | centred =>
    by_cases hf : (allowed && fitToFollow p c) = true
    · exact .inr (.inl ⟨rfl, by simp only [arrive, h, hf]; rfl⟩)
    · exact .same (by simp [arrive, h, hf])
  | returning =>
    have hs : (arrive p allowed target c).state = ((limiterPass p 0 c).settle).state := by simp [arrive, h]
    rw [hs]
    unfold Channel.settle
    split
    · exact .inr (.inl ⟨rfl, rfl⟩)
    · exact .same h

/-- ClearCarFault is accepted for a FAILED car alone, and only while its node is bound (R137). -/
theorem clearFaultRefusal_none {s : State} {k : Nat} {c : Channel} (h : clearFaultRefusal s k c = none) :
    c.state = .failed ∧ isBound s k = true := by
  unfold clearFaultRefusal at h
  split at h
  · cases h
  · next failed =>
    split at h
    · cases h
    · split at h
      · cases h
      · next bound => exact ⟨not_not.1 failed, by simpa using bound⟩

namespace TrainMoves

theorem chansMap {s : State} (g : Channel → Channel) (h : ∀ b c, MayBecome b c.state (g c).state) :
    TrainMoves s (s.setChans (s.chans.map g)) :=
  of_move (.chans _ (by simp) fun k c d hc hd => by
    obtain rfl : g c = d := by simpa [hc] using hd
    exact h _ _)

theorem chansModify {s : State} (k : Nat) (g : Channel → Channel)
    (h : ∀ c, s.chans[k]? = some c → MayBecome (isBound s k) c.state (g c).state) :
    TrainMoves s (s.setChans (s.chans.modify k g)) :=
  of_move (.chans _ (by simp) fun j c d hc hd => by
    rw [List.getElem?_modify, hc] at hd
    by_cases hj : k = j
    · subst hj
      obtain rfl : g c = d := by simpa using hd
      exact h c hc
    · obtain rfl : c = d := by simpa [hj] using hd
      exact .same rfl)

theorem chansSet {s : State} {k : Nat} {c : Channel} (hc : s.chans[k]? = some c) (d : Channel)
    (h : MayBecome (isBound s k) c.state d.state) : TrainMoves s (s.setChans (s.chans.set k d)) := by
  have e : s.chans.set k d = s.chans.modify k (fun _ => d) := by
    apply List.ext_getElem?
    intro j
    rw [List.getElem?_modify, List.getElem?_set]
    by_cases hj : k = j
    · subst hj
      obtain ⟨hk, -⟩ := List.getElem?_eq_some_iff.1 hc
      simp [hk]
    · simp [hj]
  rw [e]
  refine chansModify k _ fun b hb => ?_
  obtain rfl : c = b := by simpa [hc] using hb
  exact h

theorem returnAll (s : State) : TrainMoves s (returnAll s) := chansMap _ Channel.toReturning_mayBecome

theorem addFault (k : Nat) (kind : FaultKind) (s : State) : TrainMoves s (addFault k kind s) := by
  rcases addFault_cases k kind s with ⟨-, h⟩ | ⟨c, hc, hs, -, h⟩ | ⟨c, hc, hs, hn, h⟩ <;> rw [h]
  · exact .refl
  · exact (chansSet hc { c with faults := c.faults.add kind, unreported := true } (.same rfl)).andBeside rfl
  · have failed : TrainMoves s (s.setChans (s.chans.set k (c.toFailed kind))) :=
      chansSet hc _ (.inr (.inr (.inl ⟨hn, rfl⟩)))
    split
    · exact (failed.trans (returnAll _)).andBeside rfl
    · exact failed.andBeside rfl

theorem loseNode (k : Nat) (s : State) : TrainMoves s (loseNode k s) := of_move (.lose k .nodeLost)

theorem clearUnreported (s : State) : TrainMoves s (clearUnreported s) := chansMap _ fun _ _ => .same rfl

/-! ### The channel unit -/

theorem takeTargets (s : State) : TrainMoves s (takeTargets s) := by
  unfold Machine.takeTargets
  split
  · exact .refl
  · next l _ =>
    have plan : TrainMoves s (s.setPlan { s.plan with delivered := none }) := of_move (.plan _ (.inr rfl))
    refine (plan.trans (of_move (.chans (s.chans.mapIdx (fun k c => arrive s.params (entryAllowed s) (targetFor l k) c))
      (by simp) fun k c d hc hd => ?_))).andBeside rfl
    obtain rfl : arrive s.params (entryAllowed s) (targetFor l k) c = d := by
      simpa [show s.chans[k]? = some c from hc] using hd
    exact arrive_mayBecome _ _ _ _ _

theorem trackingTest (k : Nat) (s : State) : TrainMoves s (trackingTest k s) := by
  unfold Machine.trackingTest
  split
  · exact .refl
  · next c hc =>
    split
    · exact .refl
    · split
      · have counted (n : Nat) : TrainMoves s (s.setChans (s.chans.set k { c with trackCount := n })) :=
          chansSet hc _ (.same rfl)
        dsimp only
        split
        · exact (counted _).trans (addFault _ _ _)
        · exact counted _
      · exact .refl

theorem notReadyTest (k : Nat) (cond : NodeCond) (s : State) : TrainMoves s (notReadyTest k cond s) := by
  unfold Machine.notReadyTest
  split
  · exact chansModify k _ fun c _ => c.toReturning_mayBecome _
  · exact .refl

theorem takeStat (k : Nat) (angle : Int) (cond : NodeCond) (flags : NodeFlags) (s : State) :
    TrainMoves s (takeStat k angle cond flags s) := by
  have recorded : TrainMoves s (s.setChans (s.chans.modify k (fun c => c.record angle cond flags))) :=
    chansModify k _ fun _ _ => .same rfl
  unfold Machine.takeStat
  refine recorded.trans (TrainMoves.andBeside ?_ (State.reevaluate_train _))
  split
  · exact addFault _ _ _
  · exact (trackingTest _ _).trans (notReadyTest _ _ _)

theorem testTracking (k : Nat) (s : State) : TrainMoves s (testTracking k s) := by
  unfold Machine.testTracking
  split
  · exact trackingTest _ _
  · exact .refl

theorem handleClearCarFault (tag car : Byte) (s : State) : TrainMoves s (handleClearCarFault tag car s) := by
  unfold Machine.handleClearCarFault
  dsimp only
  split
  · exact beside rfl
  · split
    · exact beside rfl
    · next c hc =>
      split
      · exact beside rfl
      · next hr =>
        obtain ⟨failed, bound⟩ := clearFaultRefusal_none hr
        exact (chansSet hc _ (.inr (.inr (.inr ⟨failed, bound, rfl⟩)))).andBeside rfl

theorem handleQueryCar (tag car : Byte) (s : State) : TrainMoves s (handleQueryCar tag car s) := by
  unfold Machine.handleQueryCar
  dsimp only
  split
  · exact beside rfl
  · split
    · next c r hc _ => exact (chansSet hc { c with flags := noNodeFlags } (.same rfl)).andBeside rfl
    · exact beside rfl

/-! ### The mode controller -/

theorem handleDisableTilt (tag : Byte) (s : State) : TrainMoves s (handleDisableTilt tag s) :=
  ((beside (s := s) (t := setMode .standby s) rfl).trans (returnAll _)).andBeside rfl

theorem leaveActive (m : Mode) (c : Cause) (s : State) : TrainMoves s (leaveActive m c s) :=
  ((beside (s := s) (t := s.setCtl { s.ctl with mode := m, cause := c }) rfl).trans (returnAll _)).andBeside rfl

theorem acceptAsserted (s : State) : TrainMoves s (acceptAsserted s) := by
  have held : TrainMoves s (s.setCtl { s.ctl with inhibit := true, inhibitCount := 0, latch := true }) := beside rfl
  unfold Machine.acceptAsserted
  dsimp only
  split
  · exact held.trans (leaveActive _ _ _)
  · exact held

theorem sampleInhibit (asserted : Bool) (s : State) : TrainMoves s (sampleInhibit asserted s) := by
  unfold Machine.sampleInhibit
  split
  · exact beside rfl
  · split
    · exact beside rfl
    · split
      · exact acceptAsserted s
      · exact beside rfl

theorem inhibitAsserted (s : State) : TrainMoves s (inhibitAsserted s) := by
  unfold Machine.inhibitAsserted
  split
  · exact .refl
  · exact acceptAsserted s

theorem inhibitReleased (s : State) : TrainMoves s (inhibitReleased s) := by
  unfold Machine.inhibitReleased
  split
  · exact beside rfl
  · exact .refl

/-! ### The planner -/

theorem testExhaustion (s : State) : TrainMoves s (testExhaustion s) := by
  unfold Machine.testExhaustion
  dsimp only
  split
  · exact (of_move (.plan { s.plan with exhausted := s.cars.any (isExhausted s) } (.inr rfl))).andBeside
      (State.raiseIf_train _ _ _ _)
  · exact of_move (.plan _ (.inr rfl))

theorem computePlan (s : State) : TrainMoves s (computePlan s) := by
  have delivered : TrainMoves s (deliverTargets s) := of_move (.plan _ (.inl (by simp)))
  unfold Machine.computePlan
  split
  · exact (delivered.trans (testExhaustion _)).andBeside (countReport_train _)
  · exact .refl

/-! ### The car line -/

/-- The line's counts and queues alone change. -/
theorem line {s : State} (l : CarLine) (hn : l.nodes = s.line.nodes) (hf : l.foreign = s.line.foreign)
    (he : l.exch = s.line.exch) : TrainMoves s (s.setLine l) := of_move (.line l hn hf (.inl he))

/-- The exchange goes on without a NAME. -/
theorem exch (s : State) {e : Exchange} (h : e.namesNone) : TrainMoves s (setExch e s) :=
  of_move (.line _ rfl rfl (.inr h))

/-- A frame that is no NAME is sent. -/
theorem send (s : State) {f : LineFrame} (h : ∀ x a, f ≠ .name x a) : TrainMoves s (sendFrame f s) :=
  exch s fun x a e => h x a (Exchange.echo.inj e)

theorem endCycle (s : State) : TrainMoves s (endCycle s) := exch s nofun

theorem openWindow (s : State) : TrainMoves s (openWindow s) := send s nofun

theorem flushMaintenance (s : State) : TrainMoves s (flushMaintenance s) :=
  (line { s.line with maint := [] } rfl rfl rfl).andBeside rfl

theorem completeHead (r : ResultCode) (value : Half) (s : State) : TrainMoves s (completeHead r value s) := by
  unfold Machine.completeHead
  split
  · exact .refl
  · next t rest _ => exact (line { s.line with maint := rest } rfl rfl rfl).andBeside rfl

theorem parkSerial (x : Serial) (s : State) : TrainMoves s (parkSerial x s) := by
  unfold Machine.parkSerial
  split
  · exact line _ rfl rfl rfl
  · exact .refl

theorem completeRollCall (r : ResultCode) (d : Detail) (s : State) : TrainMoves s (completeRollCall r d s) := by
  unfold Machine.completeRollCall
  split
  · exact .refl
  · exact (line { s.line with muster := none } rfl rfl rfl).andBeside rfl

theorem countMismatch (s : State) : TrainMoves s (countMismatch s) := line _ rfl rfl rfl

theorem reportHalt (s : State) : TrainMoves s (reportHalt s) := by
  unfold Machine.reportHalt
  split
  · exact leaveActive _ _ _
  · exact .refl

theorem haltCar (s : State) (k : Nat) : TrainMoves s (haltCar s k) := by
  unfold Machine.haltCar
  split
  · exact addFault _ _ _
  · exact .refl

theorem haltCars (ks : List Nat) (s : State) : TrainMoves s (ks.foldl Machine.haltCar s) := by
  induction ks generalizing s with
  | nil => exact .refl
  | cons k ks ih => exact (haltCar s k).trans (ih _)

theorem haltLine (s : State) : TrainMoves s (haltLine s) := by
  have stopped : TrainMoves s
      (s.setLine { s.line with state := .halted, echoCount := 0, exch := .quiet }).reevaluate :=
    (of_move (.line { s.line with state := .halted, echoCount := 0, exch := .quiet } rfl rfl
      (.inr nofun))).andBeside rfl
  exact ((((stopped.trans (haltCars _ _)).trans (flushMaintenance _)).trans (completeRollCall _ _ _)).trans
    (reportHalt _)).andBeside ((State.reevaluate_train _).trans (State.raise_train _ _ _))

theorem haltCarrying (s : State) : TrainMoves s (haltCarrying s) := by
  unfold Machine.haltCarrying
  split
  · exact (countMismatch s).trans (haltLine _)
  · exact .refl

/-! ### The muster -/

theorem endMuster (overfull : Bool) (s : State) : TrainMoves s (endMuster overfull s) := by
  have cycling : TrainMoves s (s.setLine { s.line with state := .cycling, exch := .quiet }) :=
    of_move (.line _ rfl rfl (.inr nofun))
  exact ((cycling.andBeside (State.reevaluate_train _)).andBeside (State.raiseIf_train _ _ _ _)).trans
    (completeRollCall _ _ _)

theorem openRound (s : State) : TrainMoves s (openRound s) :=
  (line { s.line with muster := s.line.muster.map (fun m => { m with round := m.round + 1 }) } rfl rfl rfl).trans
    (send _ nofun)

theorem endRound (drew : Bool) (s : State) : TrainMoves s (endRound drew s) := by
  unfold Machine.endRound
  split
  · exact endMuster _ _
  · exact openRound _

theorem hearMusterEnd (s : State) : TrainMoves s (hearMusterEnd s) := by
  unfold Machine.hearMusterEnd
  split
  · exact endMuster _ _
  · exact .refl

theorem startMuster (tag : Byte) (s : State) : TrainMoves s (startMuster tag s) := by
  have mustering : TrainMoves s (s.setLine { s.line with state := .mustering, echoCount := 0 }).reevaluate :=
    (line { s.line with state := .mustering, echoCount := 0 } rfl rfl rfl).andBeside rfl
  have sends (u : State) : TrainMoves u (sendMuster u) := by
    unfold sendMuster
    split
    · exact exch u nofun
    · exact send u nofun
  exact (((mustering.trans (flushMaintenance _)).trans
    (of_move (.dissolve (some { tag := tag, round := 0 })))).trans (sends _)).andBeside rfl

theorem handleRollCall (tag : Byte) (s : State) : TrainMoves s (handleRollCall tag s) := by
  unfold Machine.handleRollCall
  split
  · exact beside rfl
  · split
    · exact beside rfl
    · split
      · exact beside rfl
      · exact startMuster tag s

end TrainMoves
end Sys2Proof.Machine

namespace Sys2Proof.Machine

open Sys2Proof

/-- Which car has a serial is read off the formation alone. -/
theorem carOfSerial_congr {s t : State} (h : t.cars = s.cars) : carOfSerial t = carOfSerial s := by
  funext x; simp [carOfSerial, h]

theorem addFault_cars (k : Nat) (kind : FaultKind) (s : State) : (addFault k kind s).cars = s.cars := by
  rw [addFault_frame]

/-- The addresses of the foreign-node table lie beyond the cars' (R3). -/
theorem Foreign.address_of_get {f : Foreign} {a : Nat} {x : Serial} (h : f.get a = some x) : 12 < a ∧ a ≤ 15 := by
  unfold Foreign.get at h
  split at h <;> simp_all

/-- The address found for a serial holds it. -/
theorem Foreign.get_of_addressOf {f : Foreign} {a : Nat} {x : Serial} (h : f.addressOf x = some a) :
    f.get a = some x := by
  simpa using List.find?_some h

/-- A miss count set to 0 leaves the serials of the binding table. -/
theorem serials_clearMiss (l : List NodeLink) (k : Nat) :
    (l.modify k fun n => { n with miss := 0 }).map NodeLink.serial = l.map NodeLink.serial := by
  apply List.ext_getElem?
  intro j
  rw [List.getElem?_map, List.getElem?_modify, List.getElem?_map]
  cases l[j]? <;> by_cases hj : k = j <;> simp [hj]

/-- With a miss count set to 0, an entry is one of those before or has no miss. -/
theorem mem_clearMiss {l : List NodeLink} {k : Nat} {n : NodeLink}
    (h : n ∈ l.modify k fun n => { n with miss := 0 }) : n ∈ l ∨ n.miss = 0 := by
  obtain ⟨j, hj⟩ := List.getElem?_of_mem h
  rw [List.getElem?_modify, Option.map_eq_map, Option.map_eq_some_iff] at hj
  obtain ⟨m, hm, rfl⟩ := hj
  split
  · exact .inr rfl
  · exact .inl (List.mem_of_getElem? hm)

namespace TrainMoves

/-! ### What a muster and a window answer to a serial -/

theorem answerClaim (x : Serial) (s : State) : TrainMoves s (answerClaim x s) := by
  unfold Machine.answerClaim
  split
  · next k hk => exact of_move (.nameCar x k hk)
  · next hx =>
    split
    · next a ha =>
      have held := Foreign.get_of_addressOf ha
      exact of_move (.nameForeign x a (Foreign.address_of_get held).1 hx (.inl held))
    · next hn =>
      split
      · next a ha =>
        have free := (Foreign.highestFree_some.1 ha).1
        exact of_move (.nameForeign x a free hx (.inr (Foreign.addressOf_none.1 hn)))
      · exact send s nofun

theorem hearRound (outcome : ClaimOutcome) (s : State) : TrainMoves s (hearRound outcome s) := by
  unfold Machine.hearRound
  split
  · cases outcome with
    | noClaim => exact endMuster _ _
    | garbled => exact endRound _ _
    | claim x => exact answerClaim x s
  · exact .refl

theorem answerJoin (x : Serial) (s : State) : TrainMoves s (answerJoin x s) := by
  unfold Machine.answerJoin
  split
  · next k hk =>
    dsimp only
    split
    · have ended : TrainMoves s (Machine.addFault k .nodeRestart (unbind k s)) := of_move (.lose k _)
      refine ended.trans (of_move (.nameCar x k ?_))
      rw [carOfSerial_congr ((addFault_cars k _ _).trans (show (unbind k s).cars = s.cars from rfl)), hk]
    · exact of_move (.nameCar x k hk)
  · next hx =>
    have dropped := of_move (TrainMove.forget (s := s) x)
    dsimp only
    split
    · next a ha =>
      refine dropped.trans (of_move (.nameForeign x a (Foreign.highestFree_some.1 ha).1 hx (.inr fun b => ?_)))
      simp only [State.setLine_line, Foreign.get_drop]
      split <;> simp_all
    · exact dropped.trans (send _ nofun)

theorem hearKey (key : WindowKey) (s : State) : TrainMoves s (hearKey key s) := by
  unfold Machine.hearKey
  split
  · cases key with
    | noCall => exact endCycle s
    | garbled => exact endCycle s
    | alert a => exact exch s nofun
    | join x => exact answerJoin x s
  · exact .refl

/-! ### The line cycle -/

theorem startCycle (s : State) : TrainMoves s (startCycle s) := by
  unfold Machine.startCycle
  split
  · have sampled : TrainMoves s (takeSnapshot s) :=
      of_move (.chans _ (by simp) fun k c d hc hd => .same (by
        obtain rfl : (if isBound s k then { c with sent := c.theta } else c) = d := by simpa [hc] using hd
        split <;> rfl))
    exact sampled.trans (send _ nofun)
  · exact .refl

theorem maintenanceSlot (s : State) : TrainMoves s (maintenanceSlot s) := by
  unfold Machine.maintenanceSlot
  split
  · exact openWindow s
  · split
    · exact send s nofun
    · exact (completeHead _ _ _).trans (openWindow _)

theorem askAfter (a : Nat) (s : State) : TrainMoves s (askAfter a s) := by
  unfold Machine.askAfter
  split
  · exact send s nofun
  · exact maintenanceSlot s

theorem goodStat (a : Nat) (angle : Int) (cond : NodeCond) (flags : NodeFlags) (accel : Option Int) (s : State) :
    TrainMoves s (goodStat a angle cond flags accel s) := by
  unfold Machine.goodStat
  split
  · have heard : TrainMoves s
        (s.setLine { s.line with nodes := s.line.nodes.modify (a - 1) (fun n => { n with miss := 0 }) }) := by
      refine of_move (.misses _ (serials_clearMiss _ _) fun h n hn => ?_)
      rcases mem_clearMiss hn with hn | hn
      · exact h n hn
      · omega
    dsimp only
    split
    · exact (heard.trans (takeStat _ _ _ _ _)).andBeside (takeSample_train _ _)
    · exact heard.trans (takeStat _ _ _ _ _)
  · exact .refl

theorem missAt (a : Nat) (s : State) : TrainMoves s (missAt a s) := by
  unfold Machine.missAt
  split
  · dsimp only
    split
    · exact .refl
    · next n hn =>
      split
      · exact loseNode _ _
      · next hm =>
        obtain ⟨hk, he⟩ := List.getElem?_eq_some_iff.1 hn
        refine of_move (.misses _ ?_ fun h m hm => ?_)
        · rw [List.map_set]
          have same := List.set_getElem_self (as := s.line.nodes.map NodeLink.serial) (i := a - 1) (by simpa using hk)
          simpa [he] using same
        · rcases List.mem_or_eq_of_mem_set hm with hm | rfl
          · exact h m hm
          · show n.miss + 1 ≤ 2
            omega
  · exact .refl

theorem noReply (s : State) : TrainMoves s (noReply s) := by
  unfold Machine.noReply
  split
  · exact (missAt _ _).trans (askAfter _ _)
  · exact (completeHead _ _ _).trans (openWindow _)
  · exact endCycle s
  all_goals exact .refl

theorem hearStat (address : Nat) (angle : Int) (cond : NodeCond) (flags : NodeFlags) (accel : Option Int)
    (s : State) : TrainMoves s (hearStat address angle cond flags accel s) := by
  unfold Machine.hearStat
  split
  · exact (goodStat _ _ _ _ _ _).trans (askAfter _ _)
  · exact noReply s

theorem hearNodeLost (car : Nat) (s : State) : TrainMoves s (hearNodeLost car s) := by
  unfold Machine.hearNodeLost
  split
  · split
    · exact (loseNode _ _).trans (askAfter _ _)
    · exact loseNode _ _
  · exact .refl

theorem hearMrsp (address : Nat) (accepted : Bool) (value : Half) (s : State) :
    TrainMoves s (hearMrsp address accepted value s) := by
  unfold Machine.hearMrsp
  split
  · exact (completeHead _ _ _).trans (openWindow _)
  · exact noReply s

theorem hearAlrt (address : Nat) (kind : AlertKind) (detail : Half) (s : State) :
    TrainMoves s (hearAlrt address kind detail s) := by
  unfold Machine.hearAlrt Machine.answerAlert
  split
  · split
    · split
      · exact exch s nofun
      · exact send s nofun
    · exact exch s nofun
  · exact noReply s

/-! ### The echo check -/

theorem keepAlert (k : Nat) (kind : AlertKind) (detail : Half) (s : State) :
    TrainMoves s (keepAlert k kind detail s) := by
  have kept := (line (s := s)
    { s.line with alerts := s.line.alerts ++ [{ car := k, kind := kind, detail := detail, position := s.odo.pos }] }
    rfl rfl rfl).andBeside (State.raiseIf_train _ s.line.alerts.isEmpty .alerts noFlag)
  unfold Machine.keepAlert
  dsimp only
  split
  · exact kept.trans (addFault _ _ _)
  · exact kept

theorem nodeJoined {x : Serial} {a : Nat} {s : State} (h : s.line.exch = .echo (.name x a)) :
    TrainMoves s (nodeJoined x a s) := by
  unfold Machine.nodeJoined
  split
  · next ha => exact (of_move (.bind x a h ha)).andBeside rfl
  · next ha => exact (of_move (.foreign x a h (by omega))).andBeside rfl

theorem nodeNamed {x : Serial} {a : Nat} {s : State} (h : s.line.exch = .echo (.name x a)) :
    TrainMoves s (nodeNamed x a s) := by
  unfold Machine.nodeNamed
  split
  · next ha =>
    split
    · exact .refl
    · exact of_move (.bind x a h ha)
  · next ha => exact of_move (.foreign x a h (by omega))

theorem delivered {f : LineFrame} {s : State} (h : s.line.exch = .echo f) : TrainMoves s (delivered f s) := by
  unfold Machine.delivered
  split
  · exact openRound s
  · exact exch s nofun
  · split
    · exact (nodeNamed h).trans (endRound _ _)
    · exact (nodeJoined h).trans (endCycle _)
  · next x =>
    split
    · exact (parkSerial x s).trans (endRound _ _)
    · exact ((parkSerial x s).andBeside (State.raise_train _ _ _)).trans (endCycle _)
  · exact askAfter _ s
  · exact exch s nofun
  · exact exch s nofun
  · exact exch s nofun
  · exact endCycle s

theorem undelivered (f : LineFrame) (s : State) : TrainMoves s (undelivered f s) := by
  unfold Machine.undelivered
  split
  · exact openRound s
  · exact endRound _ s
  · split
    · exact endRound _ s
    · exact endCycle s
  · split
    · exact endRound _ s
    · exact endCycle s
  · exact askAfter _ s
  · exact askAfter _ s
  · exact openWindow s
  · exact endCycle s
  · exact endCycle s

theorem resumeCut (s : State) : TrainMoves s (resumeCut s) := by
  unfold Machine.resumeCut
  split
  · exact send s nofun
  · exact exch s nofun

theorem echoMatched (s : State) : TrainMoves s (echoMatched s) := by
  have matched : TrainMoves s (s.setLine { s.line with echoCount := 0 }) := line _ rfl rfl rfl
  unfold Machine.echoMatched
  dsimp only
  split
  · next f hf => exact matched.trans (delivered hf)
  · exact (matched.trans (keepAlert _ _ _ _)).trans (endCycle _)
  · exact matched.trans (endCycle _)
  · exact matched.trans (resumeCut _)
  all_goals exact .refl

theorem echoMismatched (s : State) : TrainMoves s (echoMismatched s) := by
  have halted : TrainMoves s (Machine.haltLine (Machine.countMismatch s)) := (countMismatch s).trans (haltLine _)
  unfold Machine.echoMismatched
  dsimp only
  split
  · split
    · exact halted
    · exact (countMismatch s).trans (undelivered _ _)
  · split
    · exact halted
    · exact (countMismatch s).trans (endCycle _)
  · split
    · exact halted
    · exact (countMismatch s).trans (resumeCut _)
  all_goals exact .refl

theorem hearEcho (isMatch : Bool) (s : State) : TrainMoves s (hearEcho isMatch s) := by
  cases isMatch
  · exact echoMismatched s
  · exact echoMatched s

theorem handleReadAlerts (tag : Byte) (s : State) : TrainMoves s (handleReadAlerts tag s) :=
  (line { s.line with alerts := [] } rfl rfl rfl).andBeside rfl

theorem handleNodeTransfer (tag car direction item : Byte) (value : Half) (s : State) :
    TrainMoves s (handleNodeTransfer tag car direction item value s) := by
  unfold Machine.handleNodeTransfer
  dsimp only
  split
  · exact beside rfl
  · split
    · exact beside rfl
    · split
      · exact beside rfl
      · split
        · exact beside rfl
        · exact line _ rfl rfl rfl

/-! ### The formation and parameter store -/

theorem handleSetFormation (tag count : Byte) {records : List CarWire} (s : State)
    (h : records.length = count.toNat) : TrainMoves s (handleSetFormation tag count records s) := by
  unfold Machine.handleSetFormation
  split
  · exact beside rfl
  · split
    · exact beside rfl
    · next hf => exact (of_move (.load records (h ▸ hf))).andBeside rfl

theorem handleSetParameters (tag : Byte) (v : Vector Word 28) (s : State) :
    TrainMoves s (handleSetParameters tag v s) := by
  unfold Machine.handleSetParameters
  split
  · exact beside rfl
  · next hv =>
    refine (of_move (.params v hv)).andBeside ?_
    dsimp only
    split <;> rfl

end TrainMoves

/-- An owner answers its request by moves of the train. -/
theorem serve_moves (tag : Byte) (r : Request) (s : State) (h : lengthAgrees r = true) :
    TrainMoves s (serve tag r s) := by
  cases r with
  | identify => exact .beside rfl
  | queryStatus => exact .beside rfl
  | commission => exact .beside (handleCommission_train _ _)
  | returnToSetup => exact .beside (handleReturnToSetup_train _ _)
  | startRun origin => exact .beside (handleStartRun_train _ _ _)
  | endRun => exact .beside rfl
  | enableTilt => exact .beside (handleEnableTilt_train _ _)
  | disableTilt => exact .handleDisableTilt _ _
  | resumeTilt => exact .beside (handleResumeTilt_train _ _)
  | reset => exact .beside rfl
  | setParameters values => exact .handleSetParameters _ _ _
  | getParameters => exact .beside rfl
  | setFormation count r1 r2 r3 records => exact .handleSetFormation _ _ _ (by simpa [lengthAgrees] using h)
  | getFormation => exact .beside rfl
  | resolveCapture number r2 r3 x => exact .beside (handleResolveCapture_train _ _ _ _)
  | queryPosition => exact .beside rfl
  | openBatch declared => exact .beside (handleOpenBatch_train _ _ _)
  | addSegments count r1 r2 r3 records => exact .beside (handleAddSegments_train _ _ _ _)
  | closeBatch count => exact .beside (handleCloseBatch_train _ _ _)
  | truncateGeometry x => exact .beside (handleTruncate_train _ _ _)
  | queryGeometry => exact .beside rfl
  | queryCar car => exact .handleQueryCar _ _ _
  | clearCarFault car => exact .handleClearCarFault _ _ _
  | rollCall => exact .handleRollCall _ _
  | nodeTransfer car direction item r3 value => exact .handleNodeTransfer _ _ _ _ _ _
  | readAlerts => exact .handleReadAlerts _ _
  | setReporting period => exact .beside rfl

/-- An event acts by moves of the train. -/
theorem event_moves {c : Instr} {f : State → State} (h : eventOf c = some f) (s : State) : TrainMoves s (f s) := by
  cases c <;> simp only [eventOf, Option.some.injEq, reduceCtorEq] at h <;> subst h
  case inhibitSample asserted => exact .sampleInhibit _ _
  case inhibitAsserted => exact .inhibitAsserted _
  case inhibitReleased => exact .inhibitReleased _
  case markerSample high => exact .beside (sampleMarker_train _ _)
  case markerRisingEdge => exact .beside (markerRises_train _)
  case pulseDecode channel levels => exact .beside rfl
  case odometrySlot => exact .beside (takeSlot_train _)
  case tachoFailed channel => exact .beside (failTacho_train _ _)
  case plannerComputation => exact .computePlan _
  case telemetryCountdown => exact .beside (hearReport_train _)
  case targetListArrival => exact .takeTargets _
  case lineCycle => exact .startCycle _
  case frameEcho isMatch => exact .hearEcho _ _
  case lineHalt => exact .haltCarrying _
  case stat => exact .hearStat _ _ _ _ _ _
  case tracking car => exact .testTracking _ _
  case replySilence => exact .noReply _
  case nodeLost car => exact .hearNodeLost _ _
  case mrsp => exact .hearMrsp _ _ _ _
  case claimRound outcome => exact .hearRound _ _
  case musterEnd => exact .hearMusterEnd _
  case contentionKey key => exact .hearKey _ _
  case alrt => exact .hearAlrt _ _ _ _

/-- Whatever a step does to the formation, the parameters, the planner, the channels and the line is made of the moves
of the train. -/
theorem step_moves {s t : State} (h : step s = .next t) : TrainMoves s t :=
  KeptByParts.step (P := TrainMoves s)
    { queue := fun _ _ m => m.andBeside rfl
      reset := fun _ q pins m => m.trans (.of_move (.reset q pins))
      held := fun u m =>
        (m.trans (.of_move (.reset u.pending { Pins.low with tachA := u.odo.tachoA.phase,
                                                              tachB := u.odo.tachoB.phase }))).andBeside rfl
      link := fun _ _ m => m.andBeside rfl
      reported := fun _ m => m.trans (.clearUnreported _)
      serve := fun tag r u hl _ _ m => m.trans (serve_moves tag r u hl)
      event := fun _ _ u he m => m.trans (event_moves he u) } .refl h

end Sys2Proof.Machine

namespace Sys2Proof.Machine

open Sys2Proof

/-! ## The checks on a formation (R5) -/

/-- The checks of R5 after COUNT, in the order of its table. -/
def formationChecks : List Detail := [.index, .range, .firstBogie, .order, .sensing, .serial]

/-- The test by which the model finds that the record at a place fails a check of R5. -/
def failsCheck (records : List CarWire) : Detail → Nat → CarWire → Bool
  | .index => fun i w => w.index.toNat != i
  | .range => fun _ w => recordOutOfRange w
  | .firstBogie => fun i w => i == 0 && w.front != 0#16
  | .order => orderFails records
  | .sensing => sensingFails records
  | .serial => serialFails records
  | _ => fun _ _ => false

/-- The first of a list of checks that reports, or else the rest of the list. -/
theorem findSome_cons_orElse (report : Detail → Option (Detail × Nat)) (d : Detail) (l : List Detail) :
    (d :: l).findSome? report = (report d).orElse fun _ => l.findSome? report := by
  cases h : report d <;> simp [h]

/-- A formation of an admitted count is reported by the first check that some record fails. -/
theorem formationFault_eq {count : Nat} (h : 1 ≤ count ∧ count ≤ 12) (records : List CarWire) :
    formationFault count records =
      formationChecks.findSome? fun d => (firstAt (failsCheck records d) records).map fun i => (d, i) := by
  have hc : ¬(count = 0 ∨ Config.carCapacity < count) := by simp only [Config.carCapacity]; omega
  simp only [formationFault, if_neg hc, formationChecks, findSome_cons_orElse, List.findSome?_nil, failsCheck]
  cases firstAt (serialFails records) records <;> rfl

/-- No record meets the test. -/
theorem firstAt_eq_none {test : Nat → CarWire → Bool} {records : List CarWire} :
    firstAt test records = none ↔ ∀ i w, records[i]? = some w → test i w = false := by
  simp only [firstAt, List.find?_eq_none, List.mem_range]
  constructor
  · intro h i w hw
    obtain ⟨hi, -⟩ := List.getElem?_eq_some_iff.1 hw
    simpa [hw] using h i hi
  · intro h i hi
    simpa [List.getElem?_eq_getElem hi] using h i _ (List.getElem?_eq_getElem hi)

/-- The record at place k is the first that meets the test. -/
theorem firstAt_eq_some {test : Nat → CarWire → Bool} {records : List CarWire} {k : Nat} {w : CarWire}
    (hk : records[k]? = some w) (ht : test k w = true)
    (hb : ∀ i x, i < k → records[i]? = some x → test i x = false) : firstAt test records = some k := by
  obtain ⟨hl, -⟩ := List.getElem?_eq_some_iff.1 hk
  refine List.find?_range_eq_some.2 ⟨by simp [hk, ht], by simpa using hl, fun i hi => ?_⟩
  have hil : i < records.length := by omega
  simpa [List.getElem?_eq_getElem hil] using hb i _ hi (List.getElem?_eq_getElem hil)

theorem recordOutOfRange_eq_false (records : List CarWire) (i : Nat) (w : CarWire) :
    recordOutOfRange w = false ↔ passesCheck records i w .range := by
  have two (b : Byte) : b.toNat ≤ 1 ↔ b = 0#8 ∨ b = 1#8 := by
    constructor
    · intro h
      rcases (show b.toNat = 0 ∨ b.toNat = 1 by omega) with h | h
      · exact .inl (BitVec.eq_of_toNat_eq h)
      · exact .inr (BitVec.eq_of_toNat_eq h)
    · rintro (rfl | rfl) <;> decide
  simp only [recordOutOfRange, passesCheck, ← two, Bool.or_eq_false_iff, Bool.and_eq_false_imp, decide_eq_false_iff_not,
    beq_iff_eq, bne_eq_false_iff_eq, not_lt, and_assoc]

theorem orderFails_eq_false (records : List CarWire) (i : Nat) (w : CarWire) :
    orderFails records i w = false ↔ passesCheck records i w .order := by
  cases i with
  | zero => simp [orderFails, passesCheck]
  | succ j =>
    have only : passesCheck records (j + 1) w .order ↔
        ∀ p, records[j]? = some p → p.front.toNat ≤ w.front.toNat ∧ p.rear.toNat ≤ w.rear.toNat :=
      ⟨fun h p hp => h j p rfl hp, fun h i p hi hp => h p (Nat.succ.inj hi ▸ hp)⟩
    rw [only]
    cases h : records[j]? <;> simp [orderFails, h]

/-- The entries taken are the entries at the places before k. -/
theorem forall_mem_take {records : List CarWire} {p : CarWire → Prop} {k : Nat} :
    (∀ x ∈ records.take k, p x) ↔ ∀ (j : Nat) (x : CarWire), j < k → records[j]? = some x → p x := by
  simp only [List.mem_iff_getElem?, List.getElem?_take]
  constructor
  · intro h j x hj hx
    exact h x ⟨j, by simp [hj, hx]⟩
  · rintro h x ⟨j, hx⟩
    split at hx
    · next hj => exact h j x hj hx
    · cases hx

theorem sensingFails_eq_false (records : List CarWire) (i : Nat) {w : CarWire}
    (h : w.tilting = 0#8 ∨ w.tilting = 1#8) :
    sensingFails records i w = false ↔ passesCheck records i w .sensing := by
  have tilts : ¬ w.tilting = 0#8 ↔ w.tilting = 1#8 := by rcases h with h | h <;> simp [h]
  simp [sensingFails, passesCheck, ← forall_mem_take, tilts]

theorem serialFails_eq_false (records : List CarWire) (i : Nat) (w : CarWire) :
    serialFails records i w = false ↔ passesCheck records i w .serial := by
  simp [serialFails, passesCheck, ← forall_mem_take]

/-- The model's test of a check is the manual's check; SENSING for a record within its ranges. -/
theorem failsCheck_eq_false (records : List CarWire) {d : Detail} (hd : d ∈ formationChecks) (i : Nat) {w : CarWire}
    (hr : d = .sensing → passesCheck records i w .range) :
    failsCheck records d i w = false ↔ passesCheck records i w d := by
  simp only [formationChecks, List.mem_cons, List.not_mem_nil, or_false] at hd
  rcases hd with rfl | rfl | rfl | rfl | rfl | rfl
  · simp [failsCheck, passesCheck]
  · exact recordOutOfRange_eq_false records i w
  · simp [failsCheck, passesCheck]
  · exact orderFails_eq_false records i w
  · exact sensingFails_eq_false records i (hr rfl).1
  · exact serialFails_eq_false records i w

/-- The formation passes exactly when its count does and every record passes every check (R5). -/
theorem formationFault_eq_none (records : List CarWire) :
    formationFault records.length records = none ↔ (1 ≤ records.length ∧ records.length ≤ 12) ∧
      ∀ d ∈ formationChecks, ∀ i w, records[i]? = some w → passesCheck records i w d := by
  by_cases hc : 1 ≤ records.length ∧ records.length ≤ 12
  · have tests : formationFault records.length records = none ↔
        ∀ d ∈ formationChecks, ∀ i w, records[i]? = some w → failsCheck records d i w = false := by
      simp only [formationFault_eq hc, List.findSome?_eq_none_iff, Option.map_eq_none_iff, firstAt_eq_none]
    rw [tests]
    constructor
    · intro h
      have ranges (i : Nat) (w : CarWire) (hw : records[i]? = some w) : passesCheck records i w .range :=
        (failsCheck_eq_false records (d := .range) (by decide) i nofun).1 (h _ (by decide) i w hw)
      exact ⟨hc, fun d hd i w hw => (failsCheck_eq_false records hd i fun _ => ranges i w hw).1 (h d hd i w hw)⟩
    · rintro ⟨-, h⟩ d hd i w hw
      exact (failsCheck_eq_false records hd i fun _ => h _ (by decide) i w hw).2 (h d hd i w hw)
  · have count : formationFault records.length records = some (.count, 0) :=
      if_pos (by simp only [Config.carCapacity]; omega)
    simp [count, hc]

/-- The check reported is the first that some record fails, with the first record that fails it (R5, R189). -/
theorem formationFault_eq_some {records : List CarWire} {n k : Nat} {d : Detail} {w : CarWire}
    (hc : 1 ≤ records.length ∧ records.length ≤ 12) (hd : formationChecks[n]? = some d) (hk : records[k]? = some w)
    (earlier : ∀ m e, m < n → formationChecks[m]? = some e →
      ∀ i x, records[i]? = some x → passesCheck records i x e)
    (before : ∀ i x, i < k → records[i]? = some x → passesCheck records i x d)
    (fails : ¬passesCheck records k w d) : formationFault records.length records = some (d, k) := by
  have hmem : d ∈ formationChecks := List.mem_of_getElem? hd
  have ranges (hs : d = .sensing) (i : Nat) (x : CarWire) (hx : records[i]? = some x) :
      passesCheck records i x .range := by
    subst hs
    refine earlier 1 _ ?_ rfl i x hx
    by_contra hn
    rcases (show n = 0 ∨ n = 1 by omega) with rfl | rfl <;> simp [formationChecks] at hd
  have found : firstAt (failsCheck records d) records = some k := by
    refine firstAt_eq_some hk ?_ fun i x hi hx => ?_
    · rw [← Bool.not_eq_false, failsCheck_eq_false records hmem k fun hs => ranges hs k w hk]
      exact fails
    · exact (failsCheck_eq_false records hmem i fun hs => ranges hs i x hx).2 (before i x hi hx)
  have split : formationChecks = formationChecks.take n ++ d :: formationChecks.drop (n + 1) := by
    obtain ⟨hn, he⟩ := List.getElem?_eq_some_iff.1 hd
    rw [← he, List.cons_getElem_drop_succ, List.take_append_drop]
  rw [formationFault_eq hc, List.findSome?_eq_some_iff]
  refine ⟨_, d, _, split, by simp [found], fun e he => ?_⟩
  obtain ⟨m, hm⟩ := List.mem_iff_getElem?.1 he
  rw [List.getElem?_take] at hm
  split at hm
  · next hmn =>
    have passes := earlier m e hmn hm
    rw [Option.map_eq_none_iff, firstAt_eq_none]
    intro i x hx
    refine (failsCheck_eq_false records (List.mem_of_getElem? hm) i fun hs => ?_).2 (passes i x hx)
    subst hs
    refine earlier 1 _ ?_ rfl i x hx
    by_contra hn
    rcases (show m = 0 ∨ m = 1 by omega) with rfl | rfl <;> simp [formationChecks] at hm
  · cases hm

/-- Settles O27: the tests of the model are the checks of R5, and its report is the first that fails. -/
theorem formationsPassExactlyTheirChecks : Obligations.FormationsPassExactlyTheirChecks := by
  intro records
  refine ⟨fun h => if_pos (by simp only [Config.carCapacity]; omega), ?_, ?_⟩
  · intro n k d w h1 h2 hd hk earlier before fails
    exact formationFault_eq_some ⟨h1, h2⟩ hd hk earlier before fails
  · rw [formationFault_eq_none]
    refine and_congr Iff.rfl ?_
    simp only [formationChecks, List.forall_mem_cons, passesCheck]
    constructor
    · rintro ⟨index, range, first, order, sensing, serial, -⟩
      refine ⟨index, fun w hw => ?_, fun w hw => first 0 w hw rfl, fun i w x hw hx => order _ x hx i w rfl hw,
        fun w hw hs => ?_, fun i j w x hij hw hx hs => ?_, fun i j w x hij hw hx hw1 hx1 => ?_⟩
      · obtain ⟨i, hi⟩ := List.getElem?_of_mem hw
        exact range i w hi
      · obtain ⟨i, hi⟩ := List.getElem?_of_mem hw
        exact (sensing i w hi hs).1
      · exact (sensing j x hx hs.2).2 i w hij hw hs.1
      · exact serial j x hx hx1 i w hij hw hw1
    · rintro ⟨index, range, first, order, tilting, sensing, serial⟩
      refine ⟨index, fun i w hw => range w (List.mem_of_getElem? hw), fun i w hw hi => first w (hi ▸ hw),
        fun i w hw j p hj hp => order j p w hp (hj ▸ hw),
        fun i w hw hs => ⟨tilting w (List.mem_of_getElem? hw) hs,
          fun j p hj hp hps => sensing j i p w hj hp hw ⟨hps, hs⟩⟩,
        fun i w hw ht j p hj hp hpt => serial j i p w hj hp hw hpt ht, nofun⟩

end Sys2Proof.Machine

namespace Sys2Proof.Machine

open Sys2Proof

/-! ## The checks on a parameter set (R9, R10) -/

/-- No value lies outside its range. -/
theorem firstOutside_eq_none {i : Nat} {xs : List Nat} {rs : List (Nat × Nat)} :
    firstOutside i xs rs = none ↔
      ∀ (k x : Nat) (r : Nat × Nat), xs[k]? = some x → rs[k]? = some r → r.1 ≤ x ∧ x ≤ r.2 := by
  induction xs generalizing i rs with
  | nil => simp [firstOutside]
  | cons a xs ih =>
    cases rs with
    | nil => simp [firstOutside]
    | cons r rs =>
      by_cases ha : a < r.1 ∨ r.2 < a
      · simp only [firstOutside, if_pos ha, reduceCtorEq, false_iff, not_forall]
        exact ⟨0, a, r, rfl, rfl, by omega⟩
      · simp only [firstOutside, if_neg ha, ih]
        constructor
        · intro h k x q hx hq
          cases k with
          | zero =>
            obtain ⟨rfl, rfl⟩ : a = x ∧ r = q := ⟨by simpa using hx, by simpa using hq⟩
            omega
          | succ k => exact h k x q (by simpa using hx) (by simpa using hq)
        · intro h k x q hx hq
          exact h (k + 1) x q (by simpa using hx) (by simpa using hq)

/-- The first value outside its range is reported by its number. -/
theorem firstOutside_eq_some {i n x : Nat} {r : Nat × Nat} {xs : List Nat} {rs : List (Nat × Nat)}
    (hx : xs[n]? = some x) (hr : rs[n]? = some r) (out : ¬(r.1 ≤ x ∧ x ≤ r.2))
    (before : ∀ (k y : Nat) (q : Nat × Nat), k < n → xs[k]? = some y → rs[k]? = some q → q.1 ≤ y ∧ y ≤ q.2) :
    firstOutside i xs rs = some (i + n) := by
  induction n generalizing i xs rs with
  | zero =>
    obtain ⟨ys, rfl⟩ : ∃ ys, xs = x :: ys := by cases xs <;> simp_all
    obtain ⟨qs, rfl⟩ : ∃ qs, rs = r :: qs := by cases rs <;> simp_all
    simp only [firstOutside]
    exact if_pos (by omega)
  | succ n ih =>
    cases xs with
    | nil => simp at hx
    | cons y xs =>
      cases rs with
      | nil => simp at hr
      | cons q rs =>
        have hy := before 0 y q (by omega) rfl rfl
        have rest := ih (i := i + 1) (xs := xs) (rs := rs) (by simpa using hx) (by simpa using hr)
          fun k z p hk hz hp => before (k + 1) z p (by omega) (by simpa using hz) (by simpa using hp)
        have inside : ¬(y < q.1 ∨ q.2 < y) := by omega
        simp only [firstOutside, if_neg inside, rest]
        congr 1; omega

/-- The values of a request as a list. -/
theorem toList_28 {α : Type} (v : Vector α 28) :
    v.toList = [v[0], v[1], v[2], v[3], v[4], v[5], v[6], v[7], v[8], v[9], v[10], v[11], v[12], v[13], v[14], v[15],
      v[16], v[17], v[18], v[19], v[20], v[21], v[22], v[23], v[24], v[25], v[26], v[27]] := by
  calc v.toList = (Vector.ofFn fun i : Fin 28 => v[i.val]).toList := by simp
    _ = List.ofFn fun i : Fin 28 => v[i.val] := by rw [Vector.toList_ofFn]
    _ = _ := rfl

/-- The word of the claims, read at the place of the field. -/
theorem insideRange_iff (v : Vector Word 28) (n : Fin 28) :
    insideRange v n = true ↔ ∀ (x : Nat) (r : Nat × Nat), (v.toList.map BitVec.toNat)[n.val]? = some x →
      paramRanges[n.val]? = some r → r.1 ≤ x ∧ x ≤ r.2 := by
  have hr : n.val < paramRanges.length := n.isLt
  simp [insideRange, List.getD, hr]

/-- The first pass of R10 passes exactly the sets whose every value lies within its range. -/
theorem firstPass_eq_none (v : Vector Word 28) :
    firstOutside 1 (v.toList.map BitVec.toNat) paramRanges = none ↔ ∀ i, insideRange v i = true := by
  simp only [firstOutside_eq_none, insideRange_iff]
  refine ⟨fun h i => h i.val, fun h k x r hx hr => ?_⟩
  obtain ⟨hk, -⟩ := List.getElem?_eq_some_iff.1 hx
  exact h ⟨k, by simpa using hk⟩ x r hx hr

/-- The first pass of R10 reports the first value outside its range by its field number. -/
theorem firstPass_eq_some {v : Vector Word 28} {n : Fin 28} (before : ∀ i, i < n → insideRange v i = true)
    (out : insideRange v n = false) :
    firstOutside 1 (v.toList.map BitVec.toNat) paramRanges = some (n.val + 1) := by
  have hx : (v.toList.map BitVec.toNat)[n.val]? = some v[n.val].toNat := by simp
  have hr : paramRanges[n.val]? = some (paramRanges.getD n (0, 0)) := by
    have h : n.val < paramRanges.length := n.isLt
    simp [List.getD, h]
  rw [Nat.add_comm]
  refine firstOutside_eq_some hx hr (by simpa [insideRange] using out) fun k y q hk hy hq => ?_
  exact (insideRange_iff v ⟨k, by omega⟩).1 (before ⟨k, by omega⟩ hk) y q hy hq

/-- The two passes of R10 find no fault exactly in a set within its ranges whose cross checks hold. -/
theorem paramsFault_eq_none (v : Vector Word 28) :
    paramsFault v = none ↔ (∀ i, insideRange v i = true) ∧
      v[10].toNat ≤ v[9].toNat ∧ v[9].toNat ≤ v[8].toNat ∧ v[20].toNat < v[21].toNat := by
  rw [← firstPass_eq_none]
  unfold paramsFault
  split
  · next h => simp [h]
  · next h =>
    simp only [h, true_and]
    change _ ↔ (paramsOf v).fixAccuracy ≤ (paramsOf v).uResume ∧ (paramsOf v).uResume ≤ (paramsOf v).uMax ∧
      (paramsOf v).lookLow < (paramsOf v).lookHigh
    split
    · simp only [reduceCtorEq, false_iff]; omega
    · split
      · simp only [reduceCtorEq, false_iff]; omega
      · simp only [true_iff]; omega

/-- A set that passes the first pass is held field by field as the request brought it. -/
theorem paramList_paramsOf {v : Vector Word 28} (h : ∀ i, insideRange v i = true) :
    paramList (paramsOf v) = v.toList.map BitVec.toNat := by
  have two (w : Word) (hw : w.toNat ≤ 1) : w = 0#32 ∨ w = 1#32 := by
    rcases (show w.toNat = 0 ∨ w.toNat = 1 by omega) with e | e
    · exact .inl (BitVec.eq_of_toNat_eq e)
    · exact .inr (BitVec.eq_of_toNat_eq e)
  have reactive := two v[18] (of_decide_eq_true (h 18)).2
  have policy := two v[27] (of_decide_eq_true (h 27)).2
  rcases reactive with e | e <;> rcases policy with g | g <;> simp [toList_28, paramList, paramsOf, e, g]

/-! ## The laws of the formation and of the parameters, kept by every step -/

/-- Whether a formation passes is read off the formation table alone. -/
theorem FormationLaw.congr {s t : State} (h : FormationLaw s) (e : t.cars = s.cars) : FormationLaw t := by
  unfold FormationLaw at *; rwa [e]

theorem ParamsLaw.congr {s t : State} (h : ParamsLaw s) (e : t.params = s.params) : ParamsLaw t := by
  unfold ParamsLaw at *; rwa [e]

/-- The set of a request that passes its checks meets the law of the parameters. -/
theorem paramsLaw_setParams (s : State) {v : Vector Word 28} (h : paramsFault v = none) :
    ParamsLaw (s.setParams (paramsOf v)) := by
  obtain ⟨inside, cross⟩ := (paramsFault_eq_none v).1 h
  exact ⟨by rw [State.setParams_params, paramList_paramsOf inside]; exact (firstPass_eq_none v).2 inside, cross⟩

/-- What holds of any two places of a list, the earlier first, holds of its pairs. -/
theorem pairwise_of_places {α : Type} {R : α → α → Prop} {l : List α}
    (h : ∀ (i j : Nat) (x y : α), i < j → l[i]? = some x → l[j]? = some y → R x y) : l.Pairwise R :=
  List.pairwise_iff_getElem.2 fun i j hi hj hij =>
    h i j _ _ hij (List.getElem?_eq_getElem hi) (List.getElem?_eq_getElem hj)

/-- The offsets of a formation that each car carries on from the one before it rise along the train (R5, ORDER). -/
theorem offsets_rise {records : List CarWire}
    (h : ∀ (i : Nat) (w x : CarWire), records[i]? = some w → records[i + 1]? = some x →
      w.front.toNat ≤ x.front.toNat ∧ w.rear.toNat ≤ x.rear.toNat) :
    records.Pairwise (fun w x => w.front.toNat ≤ x.front.toNat ∧ w.rear.toNat ≤ x.rear.toNat) := by
  let R (w x : CarWire) : Prop := w.front.toNat ≤ x.front.toNat ∧ w.rear.toNat ≤ x.rear.toNat
  have : Trans R R R := ⟨fun a b => ⟨a.1.trans b.1, a.2.trans b.2⟩⟩
  exact List.isChain_iff_pairwise.1 (List.isChain_iff_getElem.2 fun i hi =>
    h i _ _ (List.getElem?_eq_getElem (by omega)) (List.getElem?_eq_getElem hi))

/-- A held car tilts where its record says so. -/
theorem carOfWire_node (w : CarWire) :
    (carOfWire w).node = if w.tilting = 1#8 then some { serial := w.serial, lead := w.lead.toNat } else none := rfl

/-- The node of a held car is the one of its record. -/
theorem carOfWire_node_some {w : CarWire} {n : CarNode} (h : (carOfWire w).node = some n) :
    w.tilting = 1#8 ∧ n = { serial := w.serial, lead := w.lead.toNat } := by
  rw [carOfWire_node] at h
  split at h
  · next ht => exact ⟨ht, (Option.some.inj h).symm⟩
  · cases h

/-- A held car feeds the history ring where its record says so. -/
theorem carOfWire_sensing (w : CarWire) : (carOfWire w).sensing = true ↔ w.sensing = 1#8 := decide_eq_true_iff

/-- The cars of a formation that passes its checks meet the law of the formation (R5). -/
theorem formationLaw_of_checks {s : State} {records : List CarWire}
    (h : formationFault records.length records = none) (e : s.cars = records.map carOfWire) : FormationLaw s := by
  obtain ⟨⟨-, count⟩, -, range, first, order, tilting, sensing, serial⟩ :=
    (formationsPassExactlyTheirChecks records).2.2.1 h
  unfold FormationLaw
  rw [e]
  refine ⟨(List.length_map carOfWire).trans_le count, fun c hc => ?_, fun c hc => ?_, fun c hc n hn => ?_, ?_,
    fun c hc hs => ?_, ?_, ?_⟩
  · rw [List.getElem?_map, Option.map_eq_some_iff] at hc
    obtain ⟨w, hw, rfl⟩ := hc
    simp [carOfWire, first w hw]
  · obtain ⟨w, hw, rfl⟩ := List.mem_map.1 hc
    obtain ⟨-, -, front, above, below, -⟩ := range w hw
    exact ⟨front, above, below⟩
  · obtain ⟨w, hw, rfl⟩ := List.mem_map.1 hc
    obtain ⟨-, -, -, -, -, lead, -⟩ := range w hw
    obtain ⟨ht, rfl⟩ := carOfWire_node_some hn
    exact lead ht
  · exact List.pairwise_map.2 (offsets_rise order)
  · obtain ⟨w, hw, rfl⟩ := List.mem_map.1 hc
    simp [carOfWire_node, tilting w hw ((carOfWire_sensing w).1 hs)]
  · simp only [List.pairwise_map, carOfWire_sensing]
    exact pairwise_of_places sensing
  · refine List.pairwise_map.2 (pairwise_of_places fun i j w x hij hw hx m n hm hn => ?_)
    obtain ⟨hwt, rfl⟩ := carOfWire_node_some hm
    obtain ⟨hxt, rfl⟩ := carOfWire_node_some hn
    exact serial i j w x hij hw hx hwt hxt

end Sys2Proof.Machine

namespace Sys2Proof.Machine

open Sys2Proof

/-- What every move of the train keeps is kept by its moves one after another. -/
theorem TrainMoves.keeps {P : State → Prop} (move : ∀ s t, TrainMove s t → P s → P t) {s t : State}
    (m : TrainMoves s t) (h : P s) : P t := by
  induction m with
  | refl => exact h
  | tail _ last ih => exact move _ _ last ih

/-! ## The formation and the parameters in force (R1, R5, R9, R10) -/

theorem addFault_params (k : Nat) (kind : FaultKind) (s : State) : (addFault k kind s).params = s.params := by
  rw [addFault_frame]

theorem State.train_cars {s t : State} (h : t.train = s.train) : t.cars = s.cars := congrArg Prod.fst h

theorem State.train_params {s t : State} (h : t.train = s.train) : t.params = s.params :=
  congrArg (fun x => x.2.1) h

theorem State.train_plan {s t : State} (h : t.train = s.train) : t.plan = s.plan := congrArg (fun x => x.2.2.1) h

theorem State.train_chans {s t : State} (h : t.train = s.train) : t.chans = s.chans :=
  congrArg (fun x => x.2.2.2.1) h

theorem State.train_line {s t : State} (h : t.train = s.train) : t.line = s.line :=
  congrArg (fun x => x.2.2.2.2) h

theorem formationLaw_of_none {s : State} (h : s.cars = []) : FormationLaw s := by
  simp [FormationLaw, h]

theorem paramsLaw_of_defaults {s : State} (h : s.params = .defaults) : ParamsLaw s := by
  unfold ParamsLaw; rw [h]; decide

/-- CENTRE_OK is deasserted while the line does not cycle (R32). -/
theorem centreConditions_stopped {s : State} (h : s.line.state ≠ .cycling) : centreConditions s = false := by
  simp [centreConditions, h]

/-- What a new table does to the part: its readers' records are made anew, the bindings end, the queue is flushed, the
line stops and so CENTRE_OK is deasserted (R6, R32, R100, R117, R121, R143). -/
theorem loadFormation_eq (cars : List Car) (s : State) :
    loadFormation cars s =
      { s with
        cars := cars
        chans := cars.map Channel.ofCar
        plan := { s.plan with records := cars.map fun _ => PlanRecord.fresh, exhausted := false }
        line := { s.line with
                  state := .off, nodes := cars.map fun _ => { serial := none, miss := 0 }, foreign := .empty,
                  maint := [], echoCount := 0, exch := s.line.exch.cutOff }
        ctl := { s.ctl with centreOk := false }
        link := { s.link with
                  completions :=
                    s.link.completions ++ s.line.maint.map fun e => transferFrame e .lineStopped 0#16 } } := by
  unfold loadFormation
  dsimp only
  rw [State.reevaluate_eq, centreConditions_stopped (by simp)]
  simp only [flushMaintenance_eq, noNodes, State.setCars, State.setChans, State.setPlan, State.setLine]

/-- A move leaves the formation, or loads one that passes its checks, or empties the table at a reset. -/
theorem TrainMove.keeps_formation {s t : State} (m : TrainMove s t) (h : FormationLaw s) : FormationLaw t := by
  cases m with
  | beside e => exact h.congr (State.train_cars e)
  | lose k kind => exact h.congr ((addFault_cars k kind _).trans rfl)
  | load records ok => exact formationLaw_of_checks ok rfl
  | reset q pins => exact formationLaw_of_none rfl
  | _ => exact h.congr rfl

/-- A move leaves the parameters, or brings a set that passes its checks into force, or the defaults at a reset. -/
theorem TrainMove.keeps_params {s t : State} (m : TrainMove s t) (h : ParamsLaw s) : ParamsLaw t := by
  cases m with
  | beside e => exact h.congr (State.train_params e)
  | lose k kind => exact h.congr ((addFault_params k kind _).trans rfl)
  | load records ok => exact h.congr (by rw [loadFormation_eq])
  | params v ok => exact paramsLaw_setParams s ok
  | reset q pins => exact paramsLaw_of_defaults rfl
  | _ => exact h.congr rfl

/-- Settles O12: each move of the train keeps both laws. -/
theorem stepsKeepFormationAndParametersValid : Obligations.StepsKeepFormationAndParametersValid := by
  intro s t formation params e
  exact ⟨(step_moves e).keeps (fun _ _ => TrainMove.keeps_formation) formation,
    (step_moves e).keeps (fun _ _ => TrainMove.keeps_params) params⟩

/-! ## The tables of the train in agreement (R3, R120, R143) -/

theorem isTilting_congr {s t : State} (h : t.cars = s.cars) : isTilting t = isTilting s := by
  funext k; simp [isTilting, h]

theorem ownSerial_congr {s t : State} (h : t.cars = s.cars) : ownSerial t = ownSerial s := by
  funext k; simp [ownSerial, h]

theorem isBound_congr {s t : State} (h : t.line.nodes = s.line.nodes) : isBound t = isBound s := by
  funext k; simp [isBound, h]

theorem boundSerial_congr {s t : State} (h : t.line.nodes = s.line.nodes) : boundSerial t = boundSerial s := by
  funext k; simp [boundSerial, h]

/-- A node is bound exactly where the binding table holds its serial. -/
theorem isBound_eq (s : State) (k : Nat) : isBound s k = (boundSerial s k).isSome := by
  unfold isBound boundSerial
  cases s.line.nodes[k]? <;> rfl

/-- A car that a serial finds has it as its own. -/
theorem ownSerial_of_carOfSerial {s : State} {x : Serial} {k : Nat} (h : carOfSerial s x = some k) :
    k < s.cars.length ∧ ownSerial s k = some x := by
  obtain ⟨hk, he, -⟩ := List.findIdx?_eq_some_iff_getElem.1 h
  exact ⟨hk, by simpa [ownSerial, hk] using he⟩

/-- A car with a serial of its own tilts. -/
theorem isTilting_of_ownSerial {s : State} {x : Serial} {k : Nat} (h : ownSerial s k = some x) :
    isTilting s k = true := by
  unfold ownSerial at h
  unfold isTilting Car.tilting
  cases hc : s.cars[k]? with
  | none => simp [hc] at h
  | some c => cases hn : c.node <;> simp_all

/-- What the state of a channel must be for its car and its binding (R119, R120). -/
structure StateFits (tilts bound : Bool) (x : ChanState) : Prop where
  fitted : x = .notFitted ↔ tilts = false
  fit : x.isFit = true → bound = true
  absent : x = .absent → bound = false

/-- A car whose channel is fitted tilts. -/
theorem StateFits.tilts {tilts bound : Bool} {x : ChanState} (h : StateFits tilts bound x) (hx : x ≠ .notFitted) :
    tilts = true := by
  rw [← Bool.not_eq_false, ← h.fitted]; exact hx

/-- A fit channel fits a tilting car whose node is bound. -/
theorem StateFits.ofFit {x : ChanState} (hx : x.isFit = true) : StateFits true true x where
  fitted := ⟨fun e => (by subst e; cases hx), nofun⟩
  fit _ := rfl
  absent e := by subst e; cases hx

/-- A FAILED channel fits a tilting car, whatever its binding. -/
theorem StateFits.failed (bound : Bool) : StateFits true bound .failed :=
  ⟨by simp, nofun, nofun⟩

/-- A channel that becomes what its standing binding allows still fits. -/
theorem StateFits.mayBecome {tilts bound : Bool} {old new : ChanState} (h : StateFits tilts bound old)
    (m : MayBecome bound old new) : StateFits tilts bound new := by
  rcases m with rfl | ⟨ho, hn⟩ | ⟨ho, rfl⟩ | ⟨rfl, rfl, hn⟩
  · exact h
  · obtain rfl := h.fit ho
    obtain rfl := h.tilts (by rintro rfl; cases ho)
    exact .ofFit hn
  · obtain rfl := h.tilts ho
    exact .failed bound
  · obtain rfl := h.tilts nofun
    exact .ofFit hn

/-- The tables per car agree with the formation and with each other. -/
structure CarsInOrder (s : State) : Prop where
  chans : s.chans.length = s.cars.length
  nodes : s.line.nodes.length = s.cars.length
  records : s.plan.records.length = s.cars.length
  fits : ∀ k c, s.chans[k]? = some c → StateFits (isTilting s k) (isBound s k) c.state
  own : ∀ k x, boundSerial s k = some x → ownSerial s k = some x
  misses : ∀ n ∈ s.line.nodes, n.miss ≤ 2

/-- A NAME gives a serial the address of its car, or the one foreign address that may hold it. -/
def NameFits (s : State) (x : Serial) (a : Nat) : Prop :=
  (a ≤ 12 → 1 ≤ a ∧ carOfSerial s x = some (a - 1)) ∧
  (12 < a → carOfSerial s x = none ∧ ∀ b, s.line.foreign.get b = some x → b = a)

/-- The foreign-node table and the NAME on the line agree with the formation. -/
structure NamesInOrder (s : State) : Prop where
  foreign : ∀ a x, s.line.foreign.get a = some x → carOfSerial s x = none
  once : ∀ a b x, s.line.foreign.get a = some x → s.line.foreign.get b = some x → a = b
  named : ∀ x a, s.line.exch = .echo (.name x a) → NameFits s x a

/-- The laws of the tables, gathered by what they read. -/
theorem inOrder_iff (s : State) :
    (TableLaw s ∧ BindingLaw s ∧ BoundLaw s ∧ ForeignLaw s) ↔ CarsInOrder s ∧ NamesInOrder s := by
  have fit (x : ChanState) : x.isFit = true ↔ x = .centred ∨ x = .following ∨ x = .returning := by
    cases x <;> simp [ChanState.isFit]
  constructor
  · rintro ⟨⟨chans, nodes, records, fitted⟩, ⟨own, car, misses⟩, bound, foreign, once, far⟩
    exact ⟨⟨chans, nodes, records,
        fun k c hc => ⟨fitted k c hc, fun hf => (bound k c hc).1 ((fit _).1 hf), (bound k c hc).2⟩, own, misses⟩,
      ⟨foreign, once, fun x a he => ⟨car x a he, far x a he⟩⟩⟩
  · rintro ⟨⟨chans, nodes, records, fits, own, misses⟩, ⟨foreign, once, named⟩⟩
    exact ⟨⟨chans, nodes, records, fun k c hc => (fits k c hc).fitted⟩,
      ⟨own, fun x a he => (named x a he).1, misses⟩,
      fun k c hc => ⟨fun hf => (fits k c hc).fit ((fit _).2 hf), (fits k c hc).absent⟩,
      foreign, once, fun x a he => (named x a he).2⟩

theorem CarsInOrder.congr {s t : State} (h : CarsInOrder s) (cars : t.cars = s.cars) (chans : t.chans = s.chans)
    (nodes : t.line.nodes = s.line.nodes) (records : t.plan.records = s.plan.records) : CarsInOrder t where
  chans := by rw [chans, cars, h.chans]
  nodes := by rw [nodes, cars, h.nodes]
  records := by rw [records, cars, h.records]
  fits := by rw [chans, isTilting_congr cars, isBound_congr nodes]; exact h.fits
  own := by rw [boundSerial_congr nodes, ownSerial_congr cars]; exact h.own
  misses := by rw [nodes]; exact h.misses

theorem NamesInOrder.congr {s t : State} (h : NamesInOrder s) (cars : t.cars = s.cars)
    (foreign : t.line.foreign = s.line.foreign) (exch : t.line.exch = s.line.exch) : NamesInOrder t where
  foreign := by rw [foreign, carOfSerial_congr cars]; exact h.foreign
  once := by rw [foreign]; exact h.once
  named := by unfold NameFits; rw [exch, foreign, carOfSerial_congr cars]; exact h.named

/-- A new exchange keeps the names in order where the NAME it may send fits. -/
theorem NamesInOrder.sends {s : State} (h : NamesInOrder s) {e : Exchange}
    (he : ∀ x a, e = .echo (.name x a) → NameFits s x a) : NamesInOrder (setExch e s) :=
  ⟨h.foreign, h.once, he⟩

/-- A cut leaves no NAME on the line (R6, R148). -/
theorem Exchange.cutOff_namesNone (e : Exchange) : e.cutOff.namesNone := by
  cases e <;> exact nofun

/-! ### The moves of the cars' tables -/

namespace CarsInOrder

theorem plan {s : State} (h : CarsInOrder s) (p : Planner)
    (hp : p.records.length = s.cars.length ∨ p.records.length = s.plan.records.length) :
    CarsInOrder (s.setPlan p) :=
  ⟨h.chans, h.nodes, hp.elim id (·.trans h.records), h.fits, h.own, h.misses⟩

theorem setMisses {s : State} (h : CarsInOrder s) (l : List NodeLink)
    (hs : l.map NodeLink.serial = s.line.nodes.map NodeLink.serial)
    (hm : (∀ n ∈ s.line.nodes, n.miss ≤ 2) → ∀ n ∈ l, n.miss ≤ 2) :
    CarsInOrder (s.setLine { s.line with nodes := l }) := by
  have serials : boundSerial (s.setLine { s.line with nodes := l }) = boundSerial s := by
    funext k
    have hk := congrArg (fun m => m[k]?) hs
    simp only [List.getElem?_map] at hk
    unfold boundSerial
    cases h1 : l[k]? <;> cases h2 : s.line.nodes[k]? <;> simp_all
  have bound : isBound (s.setLine { s.line with nodes := l }) = isBound s := by
    funext k; rw [isBound_eq, isBound_eq, serials]
  have length : l.length = s.line.nodes.length := by simpa using congrArg List.length hs
  exact ⟨h.chans, length.trans h.nodes, h.records, by rw [bound]; exact h.fits, by rw [serials]; exact h.own,
    hm h.misses⟩

theorem setChans {s : State} (h : CarsInOrder s) (l : List Channel) (hl : l.length = s.chans.length)
    (hc : ∀ k c d, s.chans[k]? = some c → l[k]? = some d → MayBecome (isBound s k) c.state d.state) :
    CarsInOrder (s.setChans l) := by
  refine ⟨hl.trans h.chans, h.nodes, h.records, fun k d hd => ?_, h.own, h.misses⟩
  obtain ⟨hk, -⟩ := List.getElem?_eq_some_iff.1 hd
  have hk : k < s.chans.length := hl ▸ hk
  have was := List.getElem?_eq_getElem hk
  exact (h.fits k _ was).mayBecome (hc k _ d was hd)

end CarsInOrder

/-- What stands in the binding table once the entry of car k has been set. -/
theorem boundSerial_set {s t : State} {k : Nat} {n : NodeLink} (ht : t.line.nodes = s.line.nodes.set k n)
    (hk : k < s.line.nodes.length) (j : Nat) :
    boundSerial t j = if j = k then n.serial else boundSerial s j := by
  unfold boundSerial
  rw [ht, List.getElem?_set]
  by_cases hj : j = k
  · subst hj; simp [hk]
  · simp [hj, Ne.symm hj]

/-- With no entry in the binding table no car is bound. -/
theorem boundSerial_noNodes {s t : State} (ht : t.line.nodes = noNodes s) (k : Nat) : boundSerial t k = none := by
  unfold boundSerial noNodes at *
  rw [ht, List.getElem?_map]
  cases s.cars[k]? <;> rfl

/-- A channel that has gained a fault fits a car whose binding has just ended. -/
theorem StateFits.gainsFault {tilts bound : Bool} {kind : FaultKind} {c d : Channel}
    (h : StateFits tilts bound c.state) (g : GainsFault kind c d) : StateFits tilts false d.state := by
  obtain ⟨notFitted, fails, gathers, same⟩ := g
  by_cases hn : c.state = .notFitted
  · rw [notFitted hn, hn]
    exact ⟨by simpa [hn] using h.fitted, nofun, nofun⟩
  · obtain rfl := h.tilts hn
    have failed : d.state = .failed := by
      by_cases hf : c.state = .failed
      · cases hk : c.faults.has kind
        · rw [gathers hf hk]; exact hf
        · rw [same hf hk]; exact hf
      · rw [fails hn hf]
    rw [failed]
    exact .failed false

/-- A channel whose car may return as another car fails still fits. -/
theorem StateFits.mayReturn {tilts bound : Bool} {c : Channel} (h : StateFits tilts bound c.state) (p : Prop)
    [Decidable p] (hp : p → c.state = .following) :
    StateFits tilts bound (if p then { c with state := .returning } else c).state := by
  split
  · next e => exact h.mayBecome (.inr (.inl ⟨by rw [hp e]; rfl, rfl⟩))
  · exact h

namespace CarsInOrder

/-- A car bound by its own serial has its tables in order (R122, R123). -/
theorem bindCar {s : State} (h : CarsInOrder s) {k : Nat} {x : Serial} (hx : carOfSerial s x = some k) :
    CarsInOrder (bindCar k x s) := by
  obtain ⟨hk, own⟩ := ownSerial_of_carOfSerial hx
  have serials := boundSerial_set (s := s) (t := Machine.bindCar k x s) rfl (h.nodes ▸ hk)
  refine ⟨?_, ?_, h.records, fun j d hd => ?_, fun j y hy => ?_, fun n hn => ?_⟩
  · exact (by simp : (s.chans.modify k Channel.toBound).length = s.chans.length).trans h.chans
  · exact List.length_set.trans h.nodes
  · change (s.chans.modify k Channel.toBound)[j]? = some d at hd
    rw [List.getElem?_modify, Option.map_eq_map, Option.map_eq_some_iff] at hd
    obtain ⟨c, hc, rfl⟩ := hd
    rw [isBound_eq, serials]
    by_cases hj : j = k
    · subst hj
      rw [show isTilting (Machine.bindCar j x s) j = true from isTilting_of_ownSerial own]
      simp only [if_true, Option.isSome_some, Channel.toBound]
      split
      · exact .ofFit rfl
      · exact .failed true
    · simp only [hj, Ne.symm hj, if_false, ← isBound_eq]
      exact h.fits j c hc
  · rw [serials] at hy
    split at hy
    · next hj => rw [hj, ← hy]; exact own
    · exact h.own j y hy
  · rcases List.mem_or_eq_of_mem_set hn with hn | rfl
    · exact h.misses n hn
    · exact Nat.zero_le 2

/-- A binding that ends with a fault leaves the tables in order (R155, R160). -/
theorem lose {s : State} (h : CarsInOrder s) (k : Nat) (kind : FaultKind) :
    CarsInOrder (addFault k kind (unbind k s)) := by
  have nodes : (addFault k kind (unbind k s)).line.nodes = s.line.nodes.set k { serial := none, miss := 0 } := by
    rw [addFault_frame]; rfl
  have records : (addFault k kind (unbind k s)).plan.records = s.plan.records := by rw [addFault_frame]; rfl
  have cars : (addFault k kind (unbind k s)).cars = s.cars := by rw [addFault_frame]; rfl
  by_cases hk : k < s.line.nodes.length
  · have hk' : k < s.chans.length := by rw [h.chans, ← h.nodes]; exact hk
    have hc : (unbind k s).chans[k]? = some s.chans[k] := List.getElem?_eq_getElem hk'
    obtain ⟨⟨d, hd, gains⟩, -, length, others⟩ := addFault_adds kind hc
    have serials := boundSerial_set nodes hk
    refine ⟨by rw [cars, length]; exact h.chans, by rw [nodes, cars, List.length_set, h.nodes],
      by rw [records, cars, h.records], fun j e he => ?_, fun j y hy => ?_, fun n hn => ?_⟩
    · rw [isTilting_congr cars, isBound_eq, serials]
      by_cases hj : j = k
      · subst hj
        obtain rfl : d = e := by simpa [hd] using he
        simpa using (h.fits j _ hc).gainsFault gains
      · obtain ⟨hl, -⟩ := List.getElem?_eq_some_iff.1 he
        have was : (unbind k s).chans[j]? = some _ := List.getElem?_eq_getElem (length ▸ hl)
        have now := others j _ hj was
        rw [he] at now
        rw [Option.some.inj now, if_neg hj, ← isBound_eq]
        exact (h.fits j _ was).mayReturn _ fun e => e.2.2.2
    · rw [serials] at hy
      rw [ownSerial_congr cars]
      split at hy
      · cases hy
      · exact h.own j y hy
    · rw [nodes] at hn
      rcases List.mem_or_eq_of_mem_set hn with hn | rfl
      · exact h.misses n hn
      · exact Nat.zero_le 2
  · have none : (unbind k s).chans[k]? = none :=
      List.getElem?_eq_none (by show s.chans.length ≤ k; rw [h.chans, ← h.nodes]; omega)
    refine h.congr cars ?_ (nodes.trans (List.set_eq_of_length_le (by omega))) records
    simp only [addFault, none]
    rfl

/-- With every binding ended and every channel ABSENT or NOT_FITTED the tables are in order (R121, R124). -/
theorem unbound {t : State} {cars : List Car} (hcars : t.cars = cars) (chans : t.chans.length = cars.length)
    (nodes : t.line.nodes = cars.map fun _ => { serial := none, miss := 0 })
    (records : t.plan.records.length = cars.length)
    (fits : ∀ k c, t.chans[k]? = some c → StateFits (isTilting t k) false c.state) : CarsInOrder t := by
  have serials (k : Nat) : boundSerial t k = none := boundSerial_noNodes (s := t) (by rw [noNodes, hcars, nodes]) k
  refine ⟨by rw [chans, hcars], by rw [nodes, hcars, List.length_map], by rw [records, hcars], fun k c hc => ?_,
    fun k x hx => ?_, fun n hn => ?_⟩
  · rw [isBound_eq, serials]; exact fits k c hc
  · rw [serials] at hx; cases hx
  · rw [nodes] at hn
    obtain ⟨c, -, rfl⟩ := List.mem_map.1 hn
    exact Nat.zero_le 2

theorem dissolve {s : State} (h : CarsInOrder s) (m : Option Muster) :
    CarsInOrder ((s.setChans (s.chans.map Channel.toAbsent)).setLine
      { s.line with nodes := noNodes s, foreign := .empty, parked := [], muster := m }) := by
  refine unbound rfl ((List.length_map _).trans h.chans) rfl h.records fun k d hd => ?_
  change (s.chans.map Channel.toAbsent)[k]? = some d at hd
  rw [List.getElem?_map, Option.map_eq_some_iff] at hd
  obtain ⟨c, hc, rfl⟩ := hd
  have fitted := (h.fits k c hc).fitted
  change StateFits (isTilting s k) false _
  unfold Channel.toAbsent
  split
  · next e => exact ⟨by simpa [e] using fitted, by simp [e, ChanState.isFit], by simp⟩
  · next e => exact ⟨by simpa [e] using fitted, nofun, fun _ => rfl⟩

theorem load (cars : List Car) (s : State) : CarsInOrder (loadFormation cars s) := by
  rw [loadFormation_eq]
  refine unbound (cars := cars) rfl (List.length_map _) rfl (List.length_map _) fun k d hd => ?_
  change (cars.map Channel.ofCar)[k]? = some d at hd
  rw [List.getElem?_map, Option.map_eq_some_iff] at hd
  obtain ⟨c, hc, rfl⟩ := hd
  have tilts : ((cars[k]?).map Car.tilting).getD false = c.tilting := by rw [hc]; rfl
  change StateFits (((cars[k]?).map Car.tilting).getD false) false _
  rw [tilts]
  unfold Channel.ofCar
  cases c.tilting <;> exact ⟨by simp, nofun, by simp⟩

theorem reset (q : List Instr) (pins : Pins) : CarsInOrder (State.afterReset q pins) :=
  unbound (cars := []) rfl rfl rfl rfl fun k c hc => absurd hc (by simp [State.afterReset])

end CarsInOrder

theorem Foreign.get_empty (a : Nat) : Foreign.empty.get a = none := by
  unfold Foreign.get; split <;> rfl

/-- A line without a foreign node and without a NAME has its names in order. -/
theorem NamesInOrder.none {t : State} (foreign : t.line.foreign = .empty) (exch : t.line.exch.namesNone) :
    NamesInOrder t :=
  ⟨fun a x h => by simp [foreign, Foreign.get_empty] at h, fun a b x h => by simp [foreign, Foreign.get_empty] at h,
    fun x a e => absurd e (exch x a)⟩

/-- The address named on the line may be taken by its serial (R149, R161). -/
theorem NamesInOrder.takes {s : State} (h : NamesInOrder s) {x : Serial} {a : Nat}
    (he : s.line.exch = .echo (.name x a)) (ha : 12 < a) : NamesInOrder (setForeign a (some x) s) := by
  obtain ⟨stranger, only⟩ := (h.named x a he).2 ha
  by_cases foreign : a = 13 ∨ a = 14 ∨ a = 15
  · have get (b : Nat) : (s.line.foreign.put a (some x)).get b = if b = a then some x else s.line.foreign.get b :=
      s.line.foreign.get_put a b (some x) foreign
    have holds (b : Nat) (y : Serial) (hb : (s.line.foreign.put a (some x)).get b = some y) :
        b = a ∧ y = x ∨ s.line.foreign.get b = some y := by
      rw [get] at hb
      split at hb
      · next e => exact .inl ⟨e, (Option.some.inj hb).symm⟩
      · exact .inr hb
    refine ⟨fun b y hb => ?_, fun b c y hb hc => ?_, fun y b hy => ?_⟩
    · rcases holds b y hb with ⟨-, rfl⟩ | held
      · exact stranger
      · exact h.foreign b y held
    · rcases holds b y hb with ⟨eb, ey⟩ | heldb <;> rcases holds c y hc with ⟨ec, ez⟩ | heldc
      · rw [eb, ec]
      · rw [eb, only c (ey ▸ heldc)]
      · rw [ec, only b (ez ▸ heldb)]
      · exact h.once b c y heldb heldc
    · have both : s.line.exch = .echo (.name y b) := hy
      obtain ⟨rfl, rfl⟩ : x = y ∧ a = b := by simpa [he] using both
      refine ⟨fun h12 => absurd ha (by omega), fun _ => ⟨stranger, fun b hb => ?_⟩⟩
      exact (holds b x hb).elim (·.1) (only b)
  · have same : s.line.foreign.put a (some x) = s.line.foreign := by
      unfold Foreign.put; split <;> simp_all
    exact h.congr rfl same rfl

/-- A foreign-node table that only loses entries leaves the names in order (R148, R161). -/
theorem NamesInOrder.fewer {s t : State} (h : NamesInOrder s) (cars : t.cars = s.cars)
    (exch : t.line.exch = s.line.exch)
    (held : ∀ a x, t.line.foreign.get a = some x → s.line.foreign.get a = some x) : NamesInOrder t := by
  refine ⟨fun a x ha => ?_, fun a b x ha hb => h.once a b x (held a x ha) (held b x hb), fun x a he => ?_⟩
  · rw [carOfSerial_congr cars]; exact h.foreign a x (held a x ha)
  · obtain ⟨car, far⟩ := h.named x a (exch ▸ he)
    unfold NameFits
    rw [carOfSerial_congr cars]
    exact ⟨car, fun h12 => ⟨(far h12).1, fun b hb => (far h12).2 b (held b x hb)⟩⟩

/-- A move keeps the tables and the names of the train in order. -/
theorem TrainMove.keeps_order {s t : State} (m : TrainMove s t) (formation : FormationLaw s)
    (h : CarsInOrder s ∧ NamesInOrder s) : CarsInOrder t ∧ NamesInOrder t := by
  obtain ⟨cars, names⟩ := h
  cases m with
  | beside e =>
    have hl := State.train_line e
    exact ⟨cars.congr (State.train_cars e) (State.train_chans e) (by rw [hl]) (by rw [State.train_plan e]),
      names.congr (State.train_cars e) (by rw [hl]) (by rw [hl])⟩
  | plan p hp => exact ⟨cars.plan p hp, names.congr rfl rfl rfl⟩
  | line l hn hf he =>
    refine ⟨cars.congr rfl rfl hn rfl, ?_⟩
    rcases he with he | he
    · exact names.congr rfl hf he
    · exact (names.sends fun x a e => absurd e (he x a)).congr rfl hf rfl
  | misses l hs hm => exact ⟨cars.setMisses l hs hm, names.congr rfl rfl rfl⟩
  | nameCar x k hk =>
    have hl : k < s.cars.length := (ownSerial_of_carOfSerial hk).1
    have h12 : s.cars.length ≤ 12 := formation.1
    refine ⟨cars.congr rfl rfl rfl rfl, names.sends fun y a e => ?_⟩
    obtain ⟨rfl, rfl⟩ : x = y ∧ k + 1 = a := by simpa using e
    exact ⟨fun _ => ⟨by omega, hk⟩, fun h => absurd h (by omega)⟩
  | nameForeign x a ha hx hb =>
    refine ⟨cars.congr rfl rfl rfl rfl, names.sends fun y b e => ?_⟩
    obtain ⟨rfl, rfl⟩ : x = y ∧ a = b := by simpa using e
    exact ⟨fun h => absurd h (by omega), fun _ => ⟨hx, fun b hc => hb.elim (fun hb => names.once b a x hc hb)
      fun hb => absurd hc (hb b)⟩⟩
  | forget x =>
    refine ⟨cars.congr rfl rfl rfl rfl, names.fewer rfl rfl fun a y ha => ?_⟩
    rw [State.setLine_line, Foreign.get_drop] at ha
    split at ha
    · cases ha
    · exact ha
  | chans l hl hc => exact ⟨cars.setChans l hl hc, names.congr rfl rfl rfl⟩
  | bind x a he ha => exact ⟨cars.bindCar ((names.named x a he).1 ha).2, names.congr rfl rfl rfl⟩
  | foreign x a he ha => exact ⟨cars.congr rfl rfl rfl rfl, names.takes he ha⟩
  | lose k kind =>
    have frame := addFault_frame k kind (unbind k s)
    exact ⟨cars.lose k kind, names.congr (by rw [frame]; rfl) (by rw [frame]; rfl) (by rw [frame]; rfl)⟩
  | dissolve m => exact ⟨cars.dissolve m, names.fewer rfl rfl fun a y ha => by simp [Foreign.get_empty] at ha⟩
  | load records _ =>
    exact ⟨.load _ s, .none rfl (Exchange.cutOff_namesNone s.line.exch)⟩
  | params v _ => exact ⟨cars.congr rfl rfl rfl rfl, names.congr rfl rfl rfl⟩
  | reset q pins => exact ⟨.reset q pins, .none rfl nofun⟩

/-- Settles O13: each move of the train keeps the tables and the names in order, under a formation that each keeps
valid. -/
theorem stepsKeepBindingsInOrder : Obligations.StepsKeepBindingsInOrder := by
  intro s t formation table binding bound foreign e
  have kept : FormationLaw t ∧ CarsInOrder t ∧ NamesInOrder t :=
    (step_moves e).keeps (P := fun u => FormationLaw u ∧ CarsInOrder u ∧ NamesInOrder u)
      (fun _ _ m h => ⟨m.keeps_formation h.1, m.keeps_order h.1 h.2⟩)
      ⟨formation, (inOrder_iff s).1 ⟨table, binding, bound, foreign⟩⟩
  exact (inOrder_iff t).2 kept.2

end Sys2Proof.Machine

namespace Sys2Proof.Machine

open Sys2Proof

/-! ## Fields read back from a body (R187) -/

/-- A field that stands behind other bytes is the field of what follows them. -/
theorem natAt_skip (n j : Nat) (pre rest : List Byte) : natAt n (pre.length + j) (pre ++ rest) = natAt n j rest := by
  induction n generalizing j with
  | zero => rfl
  | succ n ih =>
    have next := ih (j + 1)
    rw [← Nat.add_assoc] at next
    simp only [natAt, next, List.getD_append_right _ _ _ _ (Nat.le_add_right _ _), Nat.add_sub_cancel_left]

theorem intAt_skip (n j : Nat) (pre rest : List Byte) : intAt n (pre.length + j) (pre ++ rest) = intAt n j rest := by
  simp only [intAt, natAt_skip]

theorem natAt_bytes2 (x : Half) (rest : List Byte) : natAt 2 0 (bytes2 x ++ rest) = x.toNat := by
  have hx := x.isLt
  simp only [natAt, bytes2, List.cons_append, List.getD_cons_zero, List.getD_cons_succ, BitVec.extractLsb'_toNat,
    Nat.shiftRight_eq_div_pow]
  omega

theorem natAt_bytes4 (x : Word) (rest : List Byte) : natAt 4 0 (bytes4 x ++ rest) = x.toNat := by
  have hx := x.isLt
  simp only [natAt, bytes4, List.cons_append, List.getD_cons_zero, List.getD_cons_succ, BitVec.extractLsb'_toNat,
    Nat.shiftRight_eq_div_pow]
  omega

theorem u8_toNat {n : Nat} (h : n ≤ 255) : (u8 n).toNat = n := by
  rw [u8, BitVec.toNat_ofNat]; omega

theorem natAt_u16 {n : Nat} (h : n ≤ 65535) (rest : List Byte) : natAt 2 0 (u16 n ++ rest) = n := by
  rw [u16, natAt_bytes2, BitVec.toNat_ofNat]; omega

theorem natAt_u32 {n : Nat} (h : n ≤ 4294967295) (rest : List Byte) : natAt 4 0 (u32 n ++ rest) = n := by
  rw [u32, natAt_bytes4, BitVec.toNat_ofNat]; omega

/-- A signed field reads back as the value sent, held at the end of its range. -/
theorem intAt_i32 (x : Int) (rest : List Byte) : intAt 4 0 (i32 x ++ rest) = saturatePos x := by
  obtain ⟨low, high⟩ := saturatePos_mem x
  simp only [Config.posMin, Config.posMax] at low high
  simp only [intAt, i32, natAt_bytes4, BitVec.toNat_ofInt]
  omega

theorem u8_of_toNat (x : Byte) : u8 x.toNat = x := by
  apply BitVec.eq_of_toNat_eq
  rw [u8_toNat (by omega)]

theorem u16_of_toNat (x : Half) : u16 x.toNat = bytes2 x := by
  rw [u16, show min x.toNat 65535 = x.toNat by omega, BitVec.ofNat_toNat, BitVec.setWidth_eq]

theorem u32_of_toNat (x : Word) : u32 x.toNat = bytes4 x := by
  rw [u32, show min x.toNat 4294967295 = x.toNat by omega, BitVec.ofNat_toNat, BitVec.setWidth_eq]

/-! ## Refusals (R176, R189) -/

theorem State.refuseAt_respond (s : State) (code tag : Byte) (r : ResultCode) (d : Detail) (arg : Nat) :
    s.refuseAt code tag r d arg =
      s.respond { kind := code + 0x80#8, tag := tag, body := [resultByte r, detailByte d] ++ u16 arg } := rfl

/-- A request that is not admitted is refused WRONG_MODE (R176, check 3). -/
theorem handleRequest_wrongMode (tag : Byte) (r : Request) (s : State) (h1 : lengthAgrees r = true)
    (h2 : admitted r s = false) : handleRequest tag r s = s.refuse (requestCode r) tag .wrongMode .none := by
  simp [handleRequest, h1, h2]

/-! ## SetParameters and GetParameters (R10 to R15) -/

/-- The first pass reports before the cross checks. -/
theorem paramsFault_outside {v : Vector Word 28} {n : Fin 28} (before : ∀ i, i < n → insideRange v i = true)
    (out : insideRange v n = false) : paramsFault v = some (n.val + 1) := by
  unfold paramsFault
  rw [firstPass_eq_some before out]

/-- The cross check of uResume against fixAccuracy and uMax reports field 10. -/
theorem paramsFault_resume {v : Vector Word 28} (inside : ∀ i, insideRange v i = true)
    (h : ¬(v[10].toNat ≤ v[9].toNat ∧ v[9].toNat ≤ v[8].toNat)) : paramsFault v = some 10 := by
  unfold paramsFault
  rw [(firstPass_eq_none v).2 inside]
  exact if_pos (show v[9].toNat < v[10].toNat ∨ v[8].toNat < v[9].toNat by omega)

/-- The cross check of lookHigh against lookLow reports field 22, after that of uResume. -/
theorem paramsFault_look {v : Vector Word 28} (inside : ∀ i, insideRange v i = true)
    (h1 : v[10].toNat ≤ v[9].toNat) (h2 : v[9].toNat ≤ v[8].toNat) (h : v[21].toNat ≤ v[20].toNat) :
    paramsFault v = some 22 := by
  unfold paramsFault
  rw [(firstPass_eq_none v).2 inside]
  exact (if_neg (show ¬(v[9].toNat < v[10].toNat ∨ v[8].toNat < v[9].toNat) by omega)).trans
    (if_pos (show v[21].toNat ≤ v[20].toNat from h))

/-- SetParameters in SETUP on a free link is its owner's. -/
theorem exec_setParameters {s : State} (tag : Byte) (v : Vector Word 28) (free : LinkFree s)
    (h : s.ctl.mode = .setup) :
    exec (.setParameters tag v) s = .next (chooseIfIdle (handleSetParameters tag v s)) := by
  rw [exec_request free rfl, handleRequest_serve tag _ s rfl (by simp [admitted, h]) rfl]
  rfl

/-- A set with a fault is refused with the number of the field. -/
theorem handleSetParameters_fault {v : Vector Word 28} {n : Nat} (tag : Byte) (s : State)
    (h : paramsFault v = some n) :
    handleSetParameters tag v s = s.respond { kind := 0x90#8, tag := tag, body := [3, 22] ++ u16 n } := by
  simp only [handleSetParameters, h]
  exact State.refuseAt_respond _ _ _ _ _ _

/-- A set without a fault is in force, CENTRE_OK is re-evaluated where centreBand changes, and the derived constants
are answered. -/
theorem handleSetParameters_accept {v : Vector Word 28} (tag : Byte) (s : State) (h : paramsFault v = none) :
    handleSetParameters tag v s =
      (if (paramsOf v).centreBand = s.params.centreBand then s.setParams (paramsOf v)
        else (s.setParams (paramsOf v)).reevaluate).accept 0x10#8 tag (derivedBytes (paramsOf v)) := by
  simp only [handleSetParameters, h]

/-- Settles O25: which sets pass, and what the first failing pass answers. -/
theorem parametersAreCheckedInTwoPasses : Obligations.ParametersAreCheckedInTwoPasses := by
  intro v
  refine ⟨paramsFault_eq_none v, fun s tag free => ⟨fun mode => ?_, fun mode => ?_⟩⟩
  · rw [exec_request free rfl, handleRequest_wrongMode tag _ s rfl (by simpa [admitted] using mode)]
    rfl
  · rw [exec_setParameters tag v free mode]
    refine ⟨fun n before out => ?_, fun inside cross => ?_, fun inside h1 h2 cross => ?_,
      fun inside h1 h2 look => ?_⟩
    · rw [handleSetParameters_fault tag s (paramsFault_outside before out)]
    · rw [handleSetParameters_fault tag s (paramsFault_resume inside cross)]
      rfl
    · rw [handleSetParameters_fault tag s (paramsFault_look inside h1 h2 cross)]
      rfl
    · refine ⟨_, derivedBytes (paramsOf v), rfl, ?_⟩
      rw [handleSetParameters_accept tag s ((paramsFault_eq_none v).2 ⟨inside, h1, h2, look⟩)]
      split <;> exact ⟨rfl, rfl⟩

/-- Of the parameters the conditions of R32 read centreBand alone. -/
theorem centreConditions_setParams {s : State} {p : Params} (h : p.centreBand = s.params.centreBand) :
    centreConditions (s.setParams p) = centreConditions s := by
  have confirmed : isConfirmed (s.setParams p) = isConfirmed s := by
    funext k
    simp only [isConfirmed, State.setParams_params, State.setParams_chans, h]
    rfl
  simp only [centreConditions, confirmed]
  rfl

/-- A quotient of a numerator not below 0, rounded, lies between 0 and twice the numerator and the divisor. -/
theorem rounded_bounds {n d : Int} (hn : 0 ≤ n) (hd : 0 < d) : 0 ≤ rounded n d ∧ rounded n d ≤ 2 * n + d := by
  rw [rounded, if_pos hn]
  exact ⟨Int.ediv_nonneg (by omega) (by omega), Int.ediv_le_self _ (by omega)⟩

/-- The derived constants as a reply carries them, read at their places (R12, R13, R191). -/
theorem derivedBytes_fields {p : Params} (rate : p.rateMax ≤ 20000) (accel : p.accelMax ≤ 100000)
    (circA : p.circumferenceA ≤ 3500) (circB : p.circumferenceB ≤ 3500)
    (pulsesA : 20 ≤ p.pulsesPerRevA ∧ p.pulsesPerRevA ≤ 1000)
    (pulsesB : 20 ≤ p.pulsesPerRevB ∧ p.pulsesPerRevB ≤ 1000) :
    natAt 2 0 (derivedBytes p) = p.sMax ∧ natAt 2 2 (derivedBytes p) = p.dStep ∧
      (natAt 4 4 (derivedBytes p) : Int) = p.pulseDistance .a ∧
      (natAt 4 8 (derivedBytes p) : Int) = p.pulseDistance .b := by
  have boundsA := rounded_bounds (n := p.circumferenceA * 1000) (d := p.pulsesPerRevA) (by omega) (by omega)
  have boundsB := rounded_bounds (n := p.circumferenceB * 1000) (d := p.pulsesPerRevB) (by omega) (by omega)
  have sMax : p.sMax ≤ 65535 := by unfold Params.sMax; omega
  have dStep : p.dStep ≤ 65535 := by unfold Params.dStep; omega
  have pA : 0 ≤ p.pulseDistance .a ∧ (p.pulseDistance .a).toNat ≤ 4294967295 := by
    simp only [Params.pulseDistance]; omega
  have pB : 0 ≤ p.pulseDistance .b ∧ (p.pulseDistance .b).toNat ≤ 4294967295 := by
    simp only [Params.pulseDistance]; omega
  have at2 := natAt_skip 2 0 (u16 p.sMax)
    (u16 p.dStep ++ (u32 (p.pulseDistance .a).toNat ++ u32 (p.pulseDistance .b).toNat))
  have at4 := natAt_skip 4 0 (u16 p.sMax ++ u16 p.dStep)
    (u32 (p.pulseDistance .a).toNat ++ u32 (p.pulseDistance .b).toNat)
  have at8 := natAt_skip 4 0 (u16 p.sMax ++ u16 p.dStep ++ u32 (p.pulseDistance .a).toNat)
    (u32 (p.pulseDistance .b).toNat ++ [])
  rw [natAt_u16 dStep] at at2
  rw [natAt_u32 pA.2] at at4
  rw [natAt_u32 pB.2] at at8
  refine ⟨?_, ?_, ?_, ?_⟩
  · simpa only [derivedBytes, List.append_assoc] using natAt_u16 sMax _
  · rw [← at2]
    simp only [derivedBytes, List.append_assoc, u16_length]
  · rw [← Int.toNat_of_nonneg pA.1, ← at4]
    simp only [derivedBytes, List.append_assoc, List.length_append, u16_length]
  · rw [← Int.toNat_of_nonneg pB.1, ← at8]
    simp only [derivedBytes, List.append_assoc, List.length_append, u16_length, u32_length, List.append_nil]

/-- Settles O26: the accepted set is in force whole, and its bytes are sent back. -/
theorem acceptedParametersAreInForceAndReadBack : Obligations.AcceptedParametersAreInForceAndReadBack := by
  intro s tag v free centre mode ok
  have inside : ∀ i, insideRange v i = true := ((paramsFault_eq_none v).1 ok).1
  have range (i : Fin 28) := of_decide_eq_true (inside i)
  obtain ⟨sMax, dStep, pulseA, pulseB⟩ := derivedBytes_fields (p := paramsOf v) (range 4).2 (range 5).2 (range 13).2
    (range 14).2 (range 15) (range 16)
  refine ⟨_, derivedBytes (paramsOf v), exec_setParameters tag v free mode, ?_, rfl, sMax, dStep, pulseA, pulseB,
    fun w tag2 freew params => ?_⟩
  · rw [handleSetParameters_accept tag s ok]
    split
    · next band =>
      have level : s.ctl.centreOk = centreConditions (s.setParams (paramsOf v)) :=
        ((centreLaw_iff s).1 centre).trans (centreConditions_setParams band).symm
      change _ = { s with
        params := paramsOf v
        ctl := { s.ctl with centreOk := centreConditions (s.setParams (paramsOf v)) }
        link := { s.link with reply := some (okFrame 0x10#8 tag (derivedBytes (paramsOf v))) } }
      rw [← level]
      rfl
    · rfl
  · have held : w.params = paramsOf v := by
      rw [params, handleSetParameters_accept tag s ok]
      split <;> rfl
    have bytes : (paramList (paramsOf v)).flatMap u32 = requestBody (.setParameters v) := by
      rw [paramList_paramsOf inside, List.flatMap_map]
      exact congrArg (fun f => v.toList.flatMap f) (funext u32_of_toNat)
    rw [exec_request freew rfl, handleRequest_serve tag2 _ w rfl rfl rfl, ← bytes, ← held]
    rfl

end Sys2Proof.Machine

namespace Sys2Proof.Machine

open Sys2Proof

/-! ## SetFormation (R4, R5, R6) -/

/-- SetFormation in SETUP on a free link, its records as many as it announces and its reserved bytes 0, is its
owner's. -/
theorem exec_setFormation {s : State} {count r1 r2 r3 : Byte} {records : List CarWire} (tag : Byte)
    (free : LinkFree s) (mode : s.ctl.mode = .setup) (length : records.length = count.toNat)
    (reserved : reservedFault (.setFormation count r1 r2 r3 records) = none) :
    exec (.setFormation tag count r1 r2 r3 records) s =
      .next (chooseIfIdle (handleSetFormation tag count records s)) := by
  rw [exec_request free rfl, handleRequest_serve tag _ s (by simp [lengthAgrees, length]) (by simp [admitted, mode])
    reserved]
  rfl

theorem carOfWire_tilting (w : CarWire) : (carOfWire w).tilting = true ↔ w.tilting = 1#8 := by
  unfold Car.tilting
  rw [carOfWire_node]
  split <;> simp_all

/-- The channel made for the car of a record (R121). -/
theorem ofCar_carOfWire (w : CarWire) :
    Channel.ofCar (carOfWire w) =
      { state := if w.tilting = 1#8 then .absent else .notFitted, theta := 0, step := 0, sent := 0, angle := none,
        cond := none, flags := noNodeFlags, trackCount := 0, faults := .empty, firstFault := none,
        unreported := false } := by
  simp only [Channel.ofCar, carOfWire_tilting]

/-- Settles O28: what the owner answers while MUSTERING, to a fault, and to a formation that passes. -/
theorem setFormationReplacesTheTrain : Obligations.SetFormationReplacesTheTrain := by
  intro s tag count r1 r2 r3 records free mode length reserved
  rw [exec_setFormation tag free mode length reserved]
  refine ⟨fun muster => ?_, fun still => ⟨fun d k fault => ?_, fun ok => ?_⟩⟩
  · simp only [handleSetFormation, if_pos muster]
    rfl
  · simp only [handleSetFormation, if_neg still, fault]
    rfl
  · simp only [handleSetFormation, if_neg still, ok, loadFormation_eq, List.map_map, Function.comp_def,
      ofCar_carOfWire]
    rfl

/-! ## GetFormation (R2, R7) -/

/-- GetFormation on a free link is its owner's. -/
theorem exec_getFormation {s : State} (tag : Byte) (free : LinkFree s) :
    exec (.getFormation tag) s = .next (chooseIfIdle (handleGetFormation tag s)) := by
  rw [exec_request free rfl, handleRequest_serve tag _ s rfl rfl rfl]
  rfl

/-- The reserved bytes of a request are 0 where the link finds none that is not (R176, check 4). -/
theorem firstNonZero_eq_none {l : List (Nat × Byte)} : firstNonZero l = none ↔ ∀ e ∈ l, e.2 = 0#8 := by
  induction l with
  | nil => simp [firstNonZero]
  | cons e l ih =>
    unfold firstNonZero
    split <;> simp_all

/-- The reserved bytes of a car record are among those of its list. -/
theorem carReserved_mem (n : Nat) {w : CarWire} {records : List CarWire} (h : w ∈ records) :
    ∃ i j k, (i, w.rsv3) ∈ carReserved n records ∧ (j, w.rsv14) ∈ carReserved n records ∧
      (k, w.rsv15) ∈ carReserved n records := by
  induction records generalizing n with
  | nil => cases h
  | cons v records ih =>
    rcases List.mem_cons.1 h with rfl | h
    · exact ⟨n + 3, n + 14, n + 15, by simp [carReserved], by simp [carReserved], by simp [carReserved]⟩
    · obtain ⟨i, j, k, hi, hj, hk⟩ := ih (n + 16) h
      exact ⟨i, j, k, by simp [carReserved, hi], by simp [carReserved, hj], by simp [carReserved, hk]⟩

theorem carRecord_reserved {count r1 r2 r3 : Byte} {records : List CarWire}
    (h : reservedFault (.setFormation count r1 r2 r3 records) = none) {w : CarWire} (hw : w ∈ records) :
    w.rsv3 = 0#8 ∧ w.rsv14 = 0#8 ∧ w.rsv15 = 0#8 := by
  have zero := firstNonZero_eq_none.1 h
  simp only [List.forall_mem_cons] at zero
  obtain ⟨-, -, -, zero⟩ := zero
  obtain ⟨i, j, k, hi, hj, hk⟩ := carReserved_mem 4 hw
  exact ⟨zero _ hi, zero _ hj, zero _ hk⟩

/-- A yes/no byte reads back as it was written. -/
theorem yesNo_decide {b : Byte} (h : b = 0#8 ∨ b = 1#8) : yesNo (decide (b = 1#8)) = b := by
  rcases h with rfl | rfl <;> rfl

/-- The serial held for a record within its ranges is the record's, 0 for a car that does not tilt. -/
theorem carOfWire_serial {records : List CarWire} {i : Nat} {w : CarWire} (range : passesCheck records i w .range) :
    ((carOfWire w).node.map CarNode.serial).getD 0#32 = w.serial := by
  obtain ⟨tilting, -, -, -, -, -, still⟩ := range
  rw [carOfWire_node]
  split
  · rfl
  · next h => exact (still (tilting.resolve_right h)).1.symm

/-- The lead held for a record within its ranges is the record's, 0 for a car that does not tilt. -/
theorem carOfWire_lead {records : List CarWire} {i : Nat} {w : CarWire} (range : passesCheck records i w .range) :
    ((carOfWire w).node.map CarNode.lead).getD 0 = w.lead.toNat := by
  obtain ⟨tilting, -, -, -, -, -, still⟩ := range
  rw [carOfWire_node]
  split
  · rfl
  · next h => rw [(still (tilting.resolve_right h)).2]; rfl

/-- A car held for a record that passes its checks is sent as the record's own bytes (R7). -/
theorem heldCarBytes_carOfWire {records : List CarWire} {i : Nat} {w : CarWire}
    (index : passesCheck records i w .index) (range : passesCheck records i w .range)
    (reserved : w.rsv3 = 0#8 ∧ w.rsv14 = 0#8 ∧ w.rsv15 = 0#8) : heldCarBytes i (carOfWire w) = carBytes w := by
  obtain ⟨r3, r14, r15⟩ := reserved
  have tilts : (carOfWire w).tilting = decide (w.tilting = 1#8) := by
    rw [Bool.eq_iff_iff, carOfWire_tilting]; simp
  unfold heldCarBytes carBytes
  rw [tilts, carOfWire_serial range, carOfWire_lead range, yesNo_decide range.1, r3, r14, r15,
    ← show w.index.toNat = i from index, u8_of_toNat, u16_of_toNat,
    show yesNo (carOfWire w).sensing = w.sensing from yesNo_decide range.2.1,
    show u16 (carOfWire w).front = bytes2 w.front from u16_of_toNat _,
    show u16 (carOfWire w).rear = bytes2 w.rear from u16_of_toNat _]
  rfl

/-- The records of a reply, where each held car is sent as the bytes of its record. -/
theorem carRecordBytes_map {n : Nat} {records : List CarWire}
    (h : ∀ (i : Nat) (w : CarWire), records[i]? = some w → heldCarBytes (n + i) (carOfWire w) = carBytes w) :
    carRecordBytes n (records.map carOfWire) = records.flatMap carBytes := by
  induction records generalizing n with
  | nil => rfl
  | cons w records ih =>
    rw [List.map_cons, carRecordBytes, List.flatMap_cons, ← h 0 w rfl, Nat.add_zero]
    congr 1
    refine ih fun i x hx => ?_
    rw [Nat.add_assoc, Nat.add_comm 1 i]
    exact h (i + 1) x hx

/-- The greatest of the values over a list, from a first one: it bounds them all, and it is one of them. -/
theorem foldl_max {α : Type} (f : α → Nat) (l : List α) (m : Nat) :
    m ≤ l.foldl (fun m c => max m (f c)) m ∧ (∀ c ∈ l, f c ≤ l.foldl (fun m c => max m (f c)) m) ∧
      (l.foldl (fun m c => max m (f c)) m = m ∨ ∃ c ∈ l, f c = l.foldl (fun m c => max m (f c)) m) := by
  induction l generalizing m with
  | nil => simp
  | cons c l ih =>
    obtain ⟨least, all, one⟩ := ih (max m (f c))
    simp only [List.foldl_cons, List.forall_mem_cons, List.exists_mem_cons_iff]
    refine ⟨by omega, ⟨by omega, all⟩, ?_⟩
    rcases one with e | e
    · rw [e]; omega
    · exact .inr (.inr e)

/-- The bytes of GetFormation after its header (R191). -/
def formationBytes (s : State) : List Byte :=
  [u8 s.cars.length, ((sensingCar s).map u8).getD 0xFF#8] ++ reserved 2 ++ i32 (tailOffset s) ++ u16 (largestLead s) ++
    reserved 2 ++ carRecordBytes 0 s.cars

theorem handleGetFormation_eq (tag : Byte) (s : State) :
    handleGetFormation tag s = s.respond (okFrame 0x13#8 tag (formationBytes s)) := rfl

/-- Without a formation every figure is 0 and there is no sensing car (R2). -/
theorem figures_none {s : State} (h : s.cars = []) :
    tailOffset s = 0 ∧ largestLead s = 0 ∧ sensingCar s = none ∧ tiltingCount s = 0 := by
  simp [tailOffset, largestLead, sensingCar, tiltingCount, h]

/-- The figures of a reply of GetFormation, read at their places. -/
theorem formationBytes_fields {s : State} (count : s.cars.length ≤ 255)
    (sensing : ∀ k, sensingCar s = some k → k ≤ 255) (lead : largestLead s ≤ 65535) :
    natAt 1 0 (formationBytes s) = s.cars.length ∧ natAt 1 1 (formationBytes s) = (sensingCar s).getD 255 ∧
      intAt 4 4 (formationBytes s) = saturatePos (tailOffset s) ∧ natAt 2 8 (formationBytes s) = largestLead s ∧
      (formationBytes s).drop 12 = carRecordBytes 0 s.cars := by
  have from4 : formationBytes s =
      ([u8 s.cars.length, ((sensingCar s).map u8).getD 0xFF#8] ++ reserved 2) ++
        (i32 (tailOffset s) ++ (u16 (largestLead s) ++ (reserved 2 ++ carRecordBytes 0 s.cars))) := by
    simp only [formationBytes, List.append_assoc]
  have from8 : formationBytes s =
      ([u8 s.cars.length, ((sensingCar s).map u8).getD 0xFF#8] ++ reserved 2 ++ i32 (tailOffset s)) ++
        (u16 (largestLead s) ++ (reserved 2 ++ carRecordBytes 0 s.cars)) := by
    simp only [formationBytes, List.append_assoc]
  have sensing1 : natAt 1 1 (formationBytes s) = (sensingCar s).getD 255 := by
    show (((sensingCar s).map u8).getD 0xFF#8).toNat = _
    cases h : sensingCar s with
    | none => rfl
    | some k => exact u8_toNat (sensing k h)
  refine ⟨u8_toNat count, sensing1, ?_, ?_, rfl⟩
  · rw [from4]
    exact (intAt_skip 4 0 _ _).trans (intAt_i32 _ _)
  · rw [from8]
    exact (natAt_skip 2 0 _ _).trans (natAt_u16 lead _)

/-- The lead of a held car, 0 where it does not tilt. -/
theorem largestLead_spec (s : State) :
    (∀ c ∈ s.cars, (c.node.map CarNode.lead).getD 0 ≤ largestLead s) ∧
      (largestLead s = 0 ∨ ∃ c ∈ s.cars, (c.node.map CarNode.lead).getD 0 = largestLead s) :=
  (foldl_max (fun c : Car => (c.node.map CarNode.lead).getD 0) s.cars 0).2

theorem sensingCar_some {s : State} {k : Nat} (h : sensingCar s = some k) :
    ∃ c, s.cars[k]? = some c ∧ c.sensing = true := by
  obtain ⟨hk, hc, -⟩ := List.findIdx?_eq_some_iff_getElem.1 h
  exact ⟨_, List.getElem?_eq_getElem hk, hc⟩

theorem sensingCar_none {s : State} : sensingCar s = none ↔ ∀ c ∈ s.cars, c.sensing = false := by
  simp [sensingCar, List.findIdx?_eq_none_iff]

section
variable {s : State} {records : List CarWire} (ok : formationFault records.length records = none)
  (held : s.cars = records.map carOfWire)
include ok held

/-- The sensing car of a formation is the one whose record says so, and there is none where no record does (R2). -/
theorem sensingCar_of_records :
    (∀ k, sensingCar s = some k → k < 12 ∧ ∃ w, records[k]? = some w ∧ w.sensing = 1#8) ∧
      (sensingCar s = none ↔ ∀ w ∈ records, w.sensing = 0#8) := by
  obtain ⟨count, -, range, -⟩ := (formationsPassExactlyTheirChecks records).2.2.1 ok
  constructor
  · intro k hk
    obtain ⟨c, hc, hs⟩ := sensingCar_some hk
    rw [held, List.getElem?_map, Option.map_eq_some_iff] at hc
    obtain ⟨w, hw, rfl⟩ := hc
    obtain ⟨hl, -⟩ := List.getElem?_eq_some_iff.1 hw
    exact ⟨by omega, w, hw, (carOfWire_sensing w).1 hs⟩
  · rw [sensingCar_none, held]
    simp only [List.forall_mem_map, ← Bool.not_eq_true, carOfWire_sensing]
    refine forall_congr' fun w => forall_congr' fun hw => ?_
    obtain ⟨-, two, -⟩ := range w hw
    rcases two with e | e <;> simp [e]

/-- The largest lead of a formation is the largest of its records (R2). -/
theorem largestLead_of_records :
    (∀ w ∈ records, w.lead.toNat ≤ largestLead s) ∧
      (largestLead s = 0 ∨ ∃ w ∈ records, w.lead.toNat = largestLead s) := by
  have leads (w : CarWire) (hw : w ∈ records) : ((carOfWire w).node.map CarNode.lead).getD 0 = w.lead.toNat := by
    obtain ⟨i, hi⟩ := List.getElem?_of_mem hw
    exact carOfWire_lead (((formationFault_eq_none records).1 ok).2 .range (by decide) i w hi)
  obtain ⟨all, one⟩ := largestLead_spec s
  rw [held] at all one
  refine ⟨fun w hw => leads w hw ▸ all _ (List.mem_map_of_mem hw), one.imp_right ?_⟩
  rintro ⟨c, hc, e⟩
  obtain ⟨w, hw, rfl⟩ := List.mem_map.1 hc
  exact ⟨w, hw, (leads w hw).symm.trans e⟩

omit ok in
theorem tiltingCount_of_records : tiltingCount s = records.countP (fun w => w.tilting == 1#8) := by
  unfold tiltingCount
  rw [held, List.countP_map]
  refine List.countP_congr fun w _ => ?_
  simp [carOfWire_tilting]

omit ok in
/-- The tail offset of a formation is the rear offset of its last record (R2). -/
theorem tailOffset_of_records {w : CarWire} (h : records.getLast? = some w) : tailOffset s = w.rear.toNat := by
  simp [tailOffset, held, List.getLast?_map, h, carOfWire]

/-- The records of a formation are sent as they came (R7). -/
theorem carRecordBytes_of_records {count r1 r2 r3 : Byte}
    (zero : reservedFault (.setFormation count r1 r2 r3 records) = none) :
    carRecordBytes 0 s.cars = records.flatMap carBytes := by
  have passes := ((formationFault_eq_none records).1 ok).2
  rw [held]
  refine carRecordBytes_map fun i w hw => ?_
  rw [Nat.zero_add]
  exact heldCarBytes_carOfWire (passes .index (by decide) i w hw) (passes .range (by decide) i w hw)
    (carRecord_reserved zero (List.mem_of_getElem? hw))

end

/-- Settles O29: the reply without a formation, and the records and figures of one that passed its checks. -/
theorem getFormationReturnsTheRecords : Obligations.GetFormationReturnsTheRecords := by
  refine ⟨fun s tag free none => ⟨?_, figures_none none⟩, ?_⟩
  · obtain ⟨tail, lead, sensing, -⟩ := figures_none none
    have bytes : formationBytes s = [0, 0xFF, 0, 0, 0, 0, 0, 0, 0, 0, 0, 0] := by
      simp only [formationBytes, tail, lead, sensing, none]
      decide
    rw [exec_getFormation tag free, handleGetFormation_eq, bytes]
  · intro s tag count records free length zero ok held
    rw [← length] at ok
    obtain ⟨⟨one_le, twelve⟩, -⟩ := (formationsPassExactlyTheirChecks records).2.2.1 ok
    obtain ⟨found, absent⟩ := sensingCar_of_records ok held
    obtain ⟨all, one⟩ := largestLead_of_records ok held
    have cars : s.cars.length = records.length := by rw [held, List.length_map]
    have lead : largestLead s ≤ 65535 := by
      rcases one with e | ⟨w, -, e⟩ <;> omega
    obtain ⟨b0, b1, b4, b8, rest⟩ := formationBytes_fields (s := s) (by omega)
      (fun k hk => by have := (found k hk).1; omega) lead
    have car (k : Nat) : sensingCar s = some k ↔ natAt 1 1 (formationBytes s) = k ∧ k < 12 := by
      rw [b1]
      constructor
      · intro hk
        exact ⟨by rw [hk]; rfl, (found k hk).1⟩
      · rintro ⟨hk, h12⟩
        cases h : sensingCar s with
        | none => rw [h] at hk; change 255 = k at hk; omega
        | some j => rw [h] at hk; exact congrArg some hk
    have tail (w : CarWire) (hw : records.getLast? = some w) : saturatePos (tailOffset s) = w.rear.toNat := by
      rw [tailOffset_of_records held hw]
      have bound := w.rear.isLt
      exact saturatePos_of_mem (by simp only [Config.posMin]; omega) (by simp only [Config.posMax]; omega)
    obtain ⟨w, hw⟩ : ∃ w, records.getLast? = some w :=
      ⟨_, List.getLast?_eq_some_getLast (List.ne_nil_of_length_pos (by omega))⟩
    refine ⟨formationBytes s, exec_getFormation tag free, rest.trans (carRecordBytes_of_records ok held zero),
      b0.trans cars, fun k hk => (found k ((car k).2 hk)).2, ?_, fun x hx => b4.trans (tail x hx), ?_, ?_, ?_, b8.symm,
      car, tiltingCount_of_records held⟩
    · rw [← absent, b1]
      cases h : sensingCar s with
      | none => simp
      | some k =>
        have := (found k h).1
        simp only [Option.getD_some, reduceCtorEq, iff_false]; omega
    · rw [b8]; exact all
    · rw [b8]; exact one
    · rw [b4, tail w hw, tailOffset_of_records held hw]

/-! ## The reset values (R16, R35) -/

/-- The defaults and the constants derived from them (R9, R12, R13). -/
theorem defaults_values :
    paramList .defaults =
        [1500, 650, 500, 8000, 5000, 10000, 3000, 1100, 1500, 1000, 50, 4, 30, 2800, 2800, 140, 140, 500, 1, 5000,
         300000, 800000, 20000, 200000, 2500, 25, 300, 0] ∧
      Params.defaults.sMax = 100 ∧ Params.defaults.dStep = 4 ∧ Params.defaults.pulseDistance .a = 20000 ∧
      Params.defaults.pulseDistance .b = 20000 := by decide

/-- The ceiling of the uncertainty in cm (R44, R46). -/
theorem uCeiling_cm : (Config.uCeiling + 9999) / 10000 = 100000 := by decide

/-- A speed window of ten zeros shows no speed (R45). -/
theorem windowSpeed_zeros : windowSpeed (List.replicate 10 0) = 0 := by decide

/-- Settles O40: the reset values are those that the model's reset writes. -/
theorem pinResetGivesEveryBlockItsResetValues : Obligations.PinResetGivesEveryBlockItsResetValues := by
  intro s pins
  obtain ⟨params, sMax, dStep, pulseA, pulseB⟩ := defaults_values
  exact ⟨State.afterReset s.pending pins, rfl, rfl, rfl, rfl, rfl, rfl, rfl, params, sMax, dStep, pulseA, pulseB, rfl,
    rfl, uCeiling_cm, rfl, windowSpeed_zeros, rfl, rfl, rfl, rfl, rfl, rfl, rfl, rfl, rfl, rfl, rfl, rfl⟩

end Sys2Proof.Machine

namespace Sys2Proof.Machine

open Sys2Proof

/-! ## The mode ladder, run state and CENTRE_OK: what each law reads -/

/-- What a law of the mode ladder or of run state reads: the mode controller without CENTRE_OK and the recorded cause,
the line state, and the state that lives in a run. -/
structure Standing where
  mode         : Mode
  run          : Bool
  inhibit      : Bool
  inhibitCount : Nat
  latch        : Bool
  line         : LineState
  captures     : List Capture
  geo          : GeoStore
  ring         : List Sample

def State.standing (s : State) : Standing :=
  { mode := s.ctl.mode, run := s.ctl.run, inhibit := s.ctl.inhibit, inhibitCount := s.ctl.inhibitCount,
    latch := s.ctl.latch, line := s.line.state, captures := s.odo.captures, geo := s.geo, ring := s.ring }

/-- What the conditions of R32 read: the line state, the bindings, whether each channel moves and its reported angle,
the formation and centreBand. -/
def State.centreView (s : State) : LineState × (Nat → Bool) × List (Bool × Option Int) × List Car × Nat :=
  (s.line.state, isBound s, s.chans.map (fun c => (isMoving c, c.angle)), s.cars, s.params.centreBand)

/-- The mode ladder and the law of run state are read off the standing of the part. -/
theorem ModeLaw.congr {s t : State} (h : ModeLaw s) (e : t.standing = s.standing) : ModeLaw t := by
  simp only [State.standing, Standing.mk.injEq] at e
  obtain ⟨mode, run, inhibit, count, latch, line, -⟩ := e
  unfold ModeLaw at *
  rwa [mode, run, inhibit, count, latch, line]

theorem RunLaw.congr {s t : State} (h : RunLaw s) (e : t.standing = s.standing) : RunLaw t := by
  simp only [State.standing, Standing.mk.injEq] at e
  obtain ⟨-, run, -, -, -, -, captures, geo, ring⟩ := e
  unfold RunLaw at *
  rwa [run, captures, geo, ring]

/-- In STANDBY the ladder asks nothing of the run and of the line. -/
theorem ModeLaw.toStandby {s t : State} (mode : t.ctl.mode = .standby) (inhibit : t.ctl.inhibit = s.ctl.inhibit)
    (latch : t.ctl.latch = s.ctl.latch) (count : t.ctl.inhibitCount = s.ctl.inhibitCount) (law : ModeLaw s) :
    ModeLaw t := by
  obtain ⟨-, -, -, -, latched, counted⟩ := law
  unfold ModeLaw
  rw [mode, inhibit, latch, count]
  exact ⟨nofun, fun h => h.elim nofun nofun, nofun, nofun, latched, counted⟩

/-- In SETUP it asks that there be no run. -/
theorem ModeLaw.toSetup {s t : State} (mode : t.ctl.mode = .setup) (run : t.ctl.run = false)
    (inhibit : t.ctl.inhibit = s.ctl.inhibit) (latch : t.ctl.latch = s.ctl.latch)
    (count : t.ctl.inhibitCount = s.ctl.inhibitCount) (law : ModeLaw s) : ModeLaw t := by
  obtain ⟨-, -, -, -, latched, counted⟩ := law
  unfold ModeLaw
  rw [mode, inhibit, latch, count]
  exact ⟨fun _ => run, fun h => h.elim nofun nofun, nofun, nofun, latched, counted⟩

/-- A run allows every run state. -/
theorem runLaw_of_run {s : State} (h : s.ctl.run = true) : RunLaw s := fun no => by rw [h] at no; cases no

/-- The conditions of R32 are read off their view of the state. -/
theorem centreConditions_view {s t : State} (e : t.centreView = s.centreView) :
    centreConditions t = centreConditions s := by
  simp only [State.centreView, Prod.mk.injEq] at e
  obtain ⟨line, bound, chans, cars, band⟩ := e
  have moving (u : State) : u.chans.all (fun c => !isMoving c) =
      (u.chans.map (fun c => (isMoving c, c.angle))).all (fun x => !x.1) := by
    rw [List.all_map]; rfl
  have confirmed (u : State) (k : Nat) : isConfirmed u k = (isBound u k &&
      match ((u.chans.map (fun c => (isMoving c, c.angle)))[k]?).bind Prod.snd with
      | some a => decide (a.natAbs ≤ u.params.centreBand)
      | none => false) := by
    rw [isConfirmed, List.getElem?_map]
    cases u.chans[k]? with
    | none => rfl
    | some c => cases h : c.angle <;> simp [h]
  have same : isConfirmed t = isConfirmed s := by
    funext k
    rw [confirmed, confirmed, bound, chans, band]
  have tilting : isTilting t = isTilting s := by
    funext k
    rw [isTilting, isTilting, cars]
  rw [centreConditions, centreConditions, moving, moving, carIndexes, carIndexes, line, chans, cars, same, tilting]

theorem CentreLaw.congr {s t : State} (h : CentreLaw s) (level : t.ctl.centreOk = s.ctl.centreOk)
    (e : t.centreView = s.centreView) : CentreLaw t := by
  rw [centreLaw_iff] at *
  rw [level, centreConditions_view e, h]

/-- A re-evaluation puts CENTRE_OK at the level of its conditions (R33). -/
theorem centreLaw_reevaluate (s : State) : CentreLaw s.reevaluate :=
  (centreLaw_iff _).2 (centreConditions_reevaluate s).symm

theorem centreView_of_train {s t : State} (e : t.train = s.train) : t.centreView = s.centreView := by
  simp only [State.train, Prod.mk.injEq] at e
  obtain ⟨cars, params, -, chans, line⟩ := e
  have bound : isBound t = isBound s := isBound_congr (congrArg CarLine.nodes line)
  simp only [State.centreView, bound, cars, params, chans, line]

end Sys2Proof.Machine

namespace Sys2Proof.Machine

open Sys2Proof

/-! ## Carrying the three laws from state to state -/

/-- From the state s to the state t the mode ladder, the law of run state and CENTRE_OK are carried over, each on its
own. -/
structure CarriesLaws (s t : State) : Prop where
  mode   : ModeLaw s → ModeLaw t
  run    : RunLaw s → RunLaw t
  centre : CentreLaw s → CentreLaw t

namespace CarriesLaws

theorem refl {s : State} : CarriesLaws s s := ⟨id, id, id⟩

theorem trans {s t u : State} (h : CarriesLaws s t) (g : CarriesLaws t u) : CarriesLaws s u :=
  ⟨g.mode ∘ h.mode, g.run ∘ h.run, g.centre ∘ h.centre⟩

/-- Nothing that the laws read changes. -/
theorem quiet {s t : State} (standing : t.standing = s.standing) (level : t.ctl.centreOk = s.ctl.centreOk)
    (view : t.centreView = s.centreView) : CarriesLaws s t :=
  ⟨fun h => h.congr standing, fun h => h.congr standing, fun h => h.congr level view⟩

/-- CENTRE_OK is re-evaluated where the standing is as it was. -/
theorem recheck {s : State} (u : State) (standing : u.standing = s.standing) : CarriesLaws s u.reevaluate :=
  ⟨fun h => h.congr standing, fun h => h.congr standing, fun _ => centreLaw_reevaluate u⟩

/-- In a run the odometer, the route geometry and the history ring are free to change. -/
theorem inRun {s t : State} (run : s.ctl.run = true) (ctl : t.ctl = s.ctl) (train : t.train = s.train) :
    CarriesLaws s t := by
  refine ⟨fun h => ?_, fun _ => runLaw_of_run (ctl ▸ run),
    fun h => h.congr (congrArg ModeCtl.centreOk ctl) (centreView_of_train train)⟩
  unfold ModeLaw at *
  rwa [ctl, State.train_line train]

/-- The mode controller moves over a line that stands, without a run's coming or going, under the ladder. -/
theorem modeChange {s t : State} (mode : ModeLaw s → ModeLaw t) (run : t.ctl.run = s.ctl.run) (odo : t.odo = s.odo)
    (geo : t.geo = s.geo) (ring : t.ring = s.ring) (centre : CentreLaw s → CentreLaw t) : CarriesLaws s t := by
  refine ⟨mode, fun h => ?_, centre⟩
  unfold RunLaw at *
  rwa [run, odo, geo, ring]

end CarriesLaws

/-- A place set to what reads the same leaves the reading of the list. -/
theorem map_set_same {α β : Type} {f : α → β} {l : List α} {k : Nat} {a b : α} (h : l[k]? = some a) (e : f b = f a) :
    (l.set k b).map f = l.map f := by
  obtain ⟨hk, ha⟩ := List.getElem?_eq_some_iff.1 h
  have self := List.set_getElem_self (as := l.map f) (i := k) (by simpa using hk)
  rwa [List.getElem_map, ha, ← e, ← List.map_set] at self

/-! ### After a reset (R35) -/

theorem modeLaw_afterReset (q : List Instr) (pins : Pins) : ModeLaw (State.afterReset q pins) := by
  simp [ModeLaw, State.afterReset, ModeCtl.afterReset]

theorem runLaw_afterReset (q : List Instr) (pins : Pins) : RunLaw (State.afterReset q pins) :=
  fun _ => ⟨rfl, rfl, rfl, rfl, rfl⟩

theorem centreLaw_afterReset (q : List Instr) (pins : Pins) : CentreLaw (State.afterReset q pins) :=
  (centreLaw_iff _).2 rfl

namespace CarriesLaws

theorem reset {s : State} (q : List Instr) (pins : Pins) : CarriesLaws s (State.afterReset q pins) :=
  ⟨fun _ => modeLaw_afterReset q pins, fun _ => runLaw_afterReset q pins, fun _ => centreLaw_afterReset q pins⟩

/-- Held in reset, the part stands as after a reset. -/
theorem holdInReset (s : State) : CarriesLaws s (holdInReset s) :=
  (reset s.pending { Pins.low with tachA := s.odo.tachoA.phase, tachB := s.odo.tachoB.phase }).trans
    (quiet rfl rfl rfl)

/-! ### The channels (R126, R134, R135) -/

/-- The channels' records change beside their moving and their reported angles. -/
theorem chans {s : State} (l : List Channel)
    (h : l.map (fun c => (isMoving c, c.angle)) = s.chans.map (fun c => (isMoving c, c.angle))) :
    CarriesLaws s (s.setChans l) := by
  refine quiet rfl rfl ?_
  show (_, _, l.map (fun c => (isMoving c, c.angle)), _) = _
  rw [h]; rfl

/-- One channel's record changes so. -/
theorem chansSet {s : State} {k : Nat} {c : Channel} (hc : s.chans[k]? = some c) (d : Channel)
    (same : (isMoving d, d.angle) = (isMoving c, c.angle)) : CarriesLaws s (s.setChans (s.chans.set k d)) :=
  chans _ (map_set_same hc same)

theorem clearUnreported (s : State) : CarriesLaws s (clearUnreported s) :=
  chans _ (by rw [List.map_map]; rfl)

theorem addFault (k : Nat) (kind : FaultKind) (s : State) : CarriesLaws s (addFault k kind s) := by
  rcases addFault_cases k kind s with ⟨-, e⟩ | ⟨c, hc, -, -, e⟩ | ⟨c, -, -, -, e⟩ <;> rw [e]
  · exact refl
  · exact (chansSet hc { c with faults := c.faults.add kind, unreported := true } rfl).trans (quiet rfl rfl rfl)
  · exact recheck _ rfl

theorem unbind (k : Nat) (s : State) : CarriesLaws s (unbind k s) := recheck _ rfl

theorem loseNode (k : Nat) (s : State) : CarriesLaws s (loseNode k s) := (unbind k s).trans (addFault _ _ _)

/-! ### The channel unit -/

theorem takeTargets (s : State) : CarriesLaws s (takeTargets s) := by
  unfold Machine.takeTargets
  split
  · exact refl
  · exact recheck _ rfl

end CarriesLaws

/-! ### What leaves the standing of the part -/

@[simp] theorem State.reevaluate_standing (s : State) : s.reevaluate.standing = s.standing := rfl
@[simp] theorem State.setChans_standing (s : State) (l : List Channel) : (s.setChans l).standing = s.standing := rfl
@[simp] theorem State.raise_standing (s : State) (k : NoticeKind) (f : Half) :
    (s.raise k f).standing = s.standing := rfl
@[simp] theorem flushMaintenance_standing (s : State) : (flushMaintenance s).standing = s.standing := rfl

@[simp] theorem addFault_standing (k : Nat) (kind : FaultKind) (s : State) :
    (addFault k kind s).standing = s.standing := by rw [addFault_frame]; rfl

@[simp] theorem trackingTest_standing (k : Nat) (s : State) : (trackingTest k s).standing = s.standing := by
  unfold trackingTest
  split
  · rfl
  · split
    · rfl
    · split
      · dsimp only
        split
        · exact addFault_standing _ _ _
        · rfl
      · rfl

@[simp] theorem notReadyTest_standing (k : Nat) (cond : NodeCond) (s : State) :
    (notReadyTest k cond s).standing = s.standing := by
  unfold notReadyTest
  split <;> rfl

@[simp] theorem completeRollCall_standing (r : ResultCode) (d : Detail) (s : State) :
    (completeRollCall r d s).standing = s.standing := by
  rcases completeRollCall_cases r d s with ⟨-, e⟩ | ⟨m, -, e⟩ <;> rw [e]
  rfl

@[simp] theorem haltCars_standing (ks : List Nat) (s : State) : (ks.foldl haltCar s).standing = s.standing := by
  induction ks generalizing s with
  | nil => rfl
  | cons k ks ih =>
    rw [List.foldl_cons, ih, haltCar]
    split
    · exact addFault_standing _ _ _
    · rfl

@[simp] theorem sendMuster_standing (s : State) : (sendMuster s).standing = s.standing := by
  unfold sendMuster
  split <;> rfl

/-- The report of a halt takes the mode from ACTIVE and INHIBITED to STANDBY (R31). -/
theorem reportHalt_standing (s : State) :
    (reportHalt s).standing = { s.standing with
      mode := if s.ctl.mode = .active ∨ s.ctl.mode = .inhibited then .standby else s.ctl.mode } := by
  unfold reportHalt
  split <;> rfl

/-- A halt stops the line, ends tilt and leaves the run and the inhibit (R31, R162). -/
theorem haltLine_standing (s : State) :
    (haltLine s).standing = { s.standing with
      line := .halted
      mode := if s.ctl.mode = .active ∨ s.ctl.mode = .inhibited then .standby else s.ctl.mode } := by
  have before (u : State) :
      (completeRollCall .refused .halted (flushMaintenance ((carIndexes u).foldl haltCar u))).standing =
        u.standing := by simp
  have mode (u : State) := congrArg Standing.mode (before u)
  simp only [State.standing] at mode
  simp only [haltLine, State.reevaluate_standing, State.raise_standing, reportHalt_standing, before, mode]
  rfl

namespace CarriesLaws

theorem trackingTest (k : Nat) (s : State) : CarriesLaws s (trackingTest k s) := by
  unfold Machine.trackingTest
  split
  · exact refl
  · next c hc =>
    split
    · exact refl
    · split
      · have counted (n : Nat) : CarriesLaws s (s.setChans (s.chans.set k { c with trackCount := n })) :=
          chansSet hc _ rfl
        dsimp only
        split
        · exact (counted _).trans (addFault _ _ _)
        · exact counted _
      · exact refl

theorem testTracking (k : Nat) (s : State) : CarriesLaws s (testTracking k s) := by
  unfold Machine.testTracking
  split
  · exact trackingTest _ _
  · exact refl

theorem takeStat (k : Nat) (angle : Int) (cond : NodeCond) (flags : NodeFlags) (s : State) :
    CarriesLaws s (takeStat k angle cond flags s) := by
  refine recheck _ ?_
  split <;> simp

theorem handleClearCarFault (tag car : Byte) (s : State) : CarriesLaws s (handleClearCarFault tag car s) := by
  unfold Machine.handleClearCarFault
  dsimp only
  split
  · exact quiet rfl rfl rfl
  · split
    · exact quiet rfl rfl rfl
    · next c _ =>
      split
      · exact quiet rfl rfl rfl
      · have cleared : CarriesLaws s (s.setChans (s.chans.set car.toNat c.cleared)).reevaluate := recheck _ rfl
        exact cleared.trans (quiet rfl rfl rfl)

theorem handleQueryCar (tag car : Byte) (s : State) : CarriesLaws s (handleQueryCar tag car s) := by
  unfold Machine.handleQueryCar
  dsimp only
  split
  · exact quiet rfl rfl rfl
  · split
    · next c _ hc _ => exact (chansSet hc { c with flags := noNodeFlags } rfl).trans (quiet rfl rfl rfl)
    · exact quiet rfl rfl rfl

/-! ### The car line -/

/-- The line changes beside its state and its bindings. -/
theorem line {s : State} (l : CarLine) (state : l.state = s.line.state) (nodes : l.nodes = s.line.nodes) :
    CarriesLaws s (s.setLine l) := by
  have bound : isBound (s.setLine l) = isBound s := isBound_congr nodes
  refine quiet ?_ rfl ?_
  · simp only [State.standing, State.setLine_line, state]; rfl
  · simp only [State.centreView, State.setLine_line, state, bound]; rfl

theorem exch (e : Exchange) (s : State) : CarriesLaws s (setExch e s) := line _ rfl rfl

theorem send (f : LineFrame) (s : State) : CarriesLaws s (sendFrame f s) := exch _ s

/-- Only the host link changes: a mark raised, a reply or a completion placed. -/
theorem link (s : State) (l : HostLink) : CarriesLaws s (s.setLink l) := quiet rfl rfl rfl

theorem raiseIf (s : State) (c : Bool) (k : NoticeKind) (f : Half) : CarriesLaws s (s.raiseIf c k f) := by
  cases c
  · exact refl
  · exact link _ _

theorem completeHead (r : ResultCode) (value : Half) (s : State) : CarriesLaws s (completeHead r value s) := by
  rw [completeHead_eq]
  exact quiet rfl rfl rfl

theorem parkSerial (x : Serial) (s : State) : CarriesLaws s (parkSerial x s) := by
  unfold Machine.parkSerial
  split
  · exact line _ rfl rfl
  · exact refl

theorem completeRollCall (r : ResultCode) (d : Detail) (s : State) : CarriesLaws s (completeRollCall r d s) := by
  rcases completeRollCall_cases r d s with ⟨-, e⟩ | ⟨m, -, e⟩ <;> rw [e]
  · exact refl
  · exact quiet rfl rfl rfl

theorem countMismatch (s : State) : CarriesLaws s (countMismatch s) := line _ rfl rfl

theorem haltLine (s : State) : CarriesLaws s (haltLine s) := by
  have standing := haltLine_standing s
  simp only [State.standing, Standing.mk.injEq] at standing
  obtain ⟨mode, run, inhibit, count, latch, -, captures, geo, ring⟩ := standing
  refine ⟨fun h => ?_, fun h => ?_, fun _ => centreLaw_reevaluate _⟩
  · by_cases tilting : s.ctl.mode = .active ∨ s.ctl.mode = .inhibited
    · exact ModeLaw.toStandby (mode.trans (if_pos tilting)) inhibit latch count h
    · rw [if_neg tilting] at mode
      obtain ⟨setup, -, -, -, latched, counted⟩ := h
      unfold ModeLaw
      rw [mode, run, inhibit, count, latch]
      exact ⟨setup, fun m => absurd m tilting, fun m => absurd (.inl m) tilting, fun m => absurd (.inr m) tilting,
        latched, counted⟩
  · unfold RunLaw at *
    rwa [run, captures, geo, ring]

theorem haltCarrying (s : State) : CarriesLaws s (haltCarrying s) := by
  unfold Machine.haltCarrying
  split
  · exact (countMismatch s).trans (haltLine _)
  · exact refl

/-! ### The muster -/

/-- A line that comes to CYCLING bears every mode. -/
theorem cycling (s : State) (e : Exchange) :
    CarriesLaws s (s.setLine { s.line with state := .cycling, exch := e }).reevaluate := by
  refine ⟨fun h => ?_, fun h => h, fun _ => centreLaw_reevaluate _⟩
  obtain ⟨setup, tilting, rest⟩ := h
  exact ⟨setup, fun m => ⟨(tilting m).1, rfl⟩, rest⟩

theorem endMuster (overfull : Bool) (s : State) : CarriesLaws s (endMuster overfull s) :=
  ((cycling s .quiet).trans (raiseIf _ _ _ _)).trans (completeRollCall _ _ _)

theorem openRound (s : State) : CarriesLaws s (openRound s) :=
  (line { s.line with muster := s.line.muster.map (fun m => { m with round := m.round + 1 }) } rfl rfl).trans
    (send _ _)

theorem endRound (drew : Bool) (s : State) : CarriesLaws s (endRound drew s) := by
  unfold Machine.endRound
  split
  · exact endMuster _ _
  · exact openRound _

theorem hearMusterEnd (s : State) : CarriesLaws s (hearMusterEnd s) := by
  unfold Machine.hearMusterEnd
  split
  · exact endMuster _ _
  · exact refl

theorem answerClaim (x : Serial) (s : State) : CarriesLaws s (answerClaim x s) := by
  unfold Machine.answerClaim
  split
  · exact send _ s
  · split
    · exact send _ s
    · split <;> exact send _ s

theorem hearRound (outcome : ClaimOutcome) (s : State) : CarriesLaws s (hearRound outcome s) := by
  unfold Machine.hearRound
  split
  · cases outcome with
    | noClaim => exact endMuster _ _
    | garbled => exact endRound _ _
    | claim x => exact answerClaim x s
  · exact refl

/-- A muster starts in SETUP or STANDBY, where the ladder asks nothing of the line (R148). -/
theorem handleRollCall (tag : Byte) {s : State} (mode : s.ctl.mode = .setup ∨ s.ctl.mode = .standby) :
    CarriesLaws s (handleRollCall tag s) := by
  have started : CarriesLaws s (startMuster tag s) := by
    have standing : (startMuster tag s).standing = { s.standing with line := .mustering } :=
      (State.reevaluate_standing _).trans (sendMuster_standing _)
    simp only [State.standing, Standing.mk.injEq] at standing
    obtain ⟨m, run, inhibit, count, latch, -, captures, geo, ring⟩ := standing
    refine ⟨fun h => ?_, fun h => ?_, fun _ => centreLaw_reevaluate _⟩
    · rcases mode with e | e
      · exact ModeLaw.toSetup (m.trans e) (run.trans (h.1 e)) inhibit latch count h
      · exact ModeLaw.toStandby (m.trans e) inhibit latch count h
    · unfold RunLaw at *
      rwa [run, captures, geo, ring]
  unfold Machine.handleRollCall
  split
  · exact link _ _
  · split
    · exact link _ _
    · split
      · exact link _ _
      · exact started

/-! ### The bindings (R123, R155, R160) -/

theorem bindCar (k : Nat) (x : Serial) (s : State) : CarriesLaws s (bindCar k x s) := recheck _ rfl

theorem setForeign (a : Nat) (x : Option Serial) (s : State) : CarriesLaws s (setForeign a x s) := line _ rfl rfl

/-- The bindings are read off the serials of the binding table. -/
theorem misses {s : State} (l : List NodeLink) (h : l.map NodeLink.serial = s.line.nodes.map NodeLink.serial) :
    CarriesLaws s (s.setLine { s.line with nodes := l }) := by
  have read (m : List NodeLink) (k : Nat) : ((m[k]?).map (fun n => n.serial.isSome)).getD false =
      (((m.map NodeLink.serial)[k]?).map Option.isSome).getD false := by
    rw [List.getElem?_map, Option.map_map]; rfl
  have bound : isBound (s.setLine { s.line with nodes := l }) = isBound s := by
    funext k
    simp only [isBound, State.setLine_line, read, h]
  refine quiet rfl rfl ?_
  simp only [State.centreView, bound]; rfl

theorem answerJoin (x : Serial) (s : State) : CarriesLaws s (answerJoin x s) := by
  unfold Machine.answerJoin
  split
  · dsimp only
    split
    · exact ((unbind _ s).trans (addFault _ _ _)).trans (send _ _)
    · exact send _ s
  · have dropped : CarriesLaws s (s.setLine { s.line with foreign := s.line.foreign.drop x }) := line _ rfl rfl
    dsimp only
    split <;> exact dropped.trans (send _ _)

theorem hearKey (key : WindowKey) (s : State) : CarriesLaws s (hearKey key s) := by
  unfold Machine.hearKey
  split
  · cases key with
    | noCall => exact exch _ s
    | garbled => exact exch _ s
    | alert a => exact exch _ s
    | join x => exact answerJoin x s
  · exact refl

/-! ### The line cycle -/

theorem startCycle (s : State) : CarriesLaws s (startCycle s) := by
  unfold Machine.startCycle
  split
  · have sampled : CarriesLaws s (takeSnapshot s) := chans _ (by
      apply List.ext_getElem?
      intro k
      simp only [List.getElem?_map, List.getElem?_mapIdx, Option.map_map]
      refine congrArg (fun g => Option.map g s.chans[k]?) (funext fun c => ?_)
      simp only [Function.comp_apply]
      split <;> rfl)
    exact sampled.trans (send _ _)
  · exact refl

theorem maintenanceSlot (s : State) : CarriesLaws s (maintenanceSlot s) := by
  unfold Machine.maintenanceSlot
  split
  · exact send _ s
  · split
    · exact send _ s
    · exact (completeHead _ _ _).trans (send _ _)

theorem askAfter (a : Nat) (s : State) : CarriesLaws s (askAfter a s) := by
  unfold Machine.askAfter
  split
  · exact send _ s
  · exact maintenanceSlot s

theorem takeSample (accel : Option Int) (s : State) : CarriesLaws s (takeSample accel s) := by
  unfold Machine.takeSample
  split
  · dsimp only
    split
    · next h => exact inRun h.1 rfl rfl
    · exact refl
  · exact refl

theorem goodStat (a : Nat) (angle : Int) (cond : NodeCond) (flags : NodeFlags) (accel : Option Int) (s : State) :
    CarriesLaws s (goodStat a angle cond flags accel s) := by
  unfold Machine.goodStat
  split
  · have heard := (misses (s := s) _ (serials_clearMiss s.line.nodes (a - 1))).trans
      (takeStat (a - 1) (clampAbs angle Config.angleLimit) cond flags _)
    dsimp only
    split
    · exact heard.trans (takeSample _ _)
    · exact heard
  · exact refl

theorem missAt (a : Nat) (s : State) : CarriesLaws s (missAt a s) := by
  unfold Machine.missAt
  split
  · dsimp only
    split
    · exact refl
    · next n hn =>
      split
      · exact loseNode _ _
      · exact misses _ (map_set_same hn rfl)
  · exact refl

theorem noReply (s : State) : CarriesLaws s (noReply s) := by
  unfold Machine.noReply
  split
  · exact (missAt _ _).trans (askAfter _ _)
  · exact (completeHead _ _ _).trans (send _ _)
  · exact exch _ s
  all_goals exact refl

theorem hearStat (address : Nat) (angle : Int) (cond : NodeCond) (flags : NodeFlags) (accel : Option Int)
    (s : State) : CarriesLaws s (hearStat address angle cond flags accel s) := by
  unfold Machine.hearStat
  split
  · exact (goodStat _ _ _ _ _ _).trans (askAfter _ _)
  · exact noReply s

theorem hearNodeLost (car : Nat) (s : State) : CarriesLaws s (hearNodeLost car s) := by
  unfold Machine.hearNodeLost
  split
  · split
    · exact (loseNode _ _).trans (askAfter _ _)
    · exact loseNode _ _
  · exact refl

theorem hearMrsp (address : Nat) (accepted : Bool) (value : Half) (s : State) :
    CarriesLaws s (hearMrsp address accepted value s) := by
  unfold Machine.hearMrsp
  split
  · exact (completeHead _ _ _).trans (send _ _)
  · exact noReply s

theorem hearAlrt (address : Nat) (kind : AlertKind) (detail : Half) (s : State) :
    CarriesLaws s (hearAlrt address kind detail s) := by
  unfold Machine.hearAlrt answerAlert
  split
  · split
    · split <;> exact exch _ s
    · exact exch _ s
  · exact noReply s

/-! ### The echo check -/

theorem keepAlert (k : Nat) (kind : AlertKind) (detail : Half) (s : State) :
    CarriesLaws s (keepAlert k kind detail s) := by
  have kept := (line (s := s)
    { s.line with alerts := s.line.alerts ++ [{ car := k, kind := kind, detail := detail, position := s.odo.pos }] }
    rfl rfl).trans (raiseIf _ s.line.alerts.isEmpty .alerts noFlag)
  unfold Machine.keepAlert
  dsimp only
  split
  · exact kept.trans (addFault _ _ _)
  · exact kept

theorem nodeJoined (x : Serial) (a : Nat) (s : State) : CarriesLaws s (nodeJoined x a s) := by
  unfold Machine.nodeJoined
  split
  · exact (bindCar _ _ _).trans (link _ _)
  · exact (setForeign _ _ _).trans (link _ _)

theorem nodeNamed (x : Serial) (a : Nat) (s : State) : CarriesLaws s (nodeNamed x a s) := by
  unfold Machine.nodeNamed
  split
  · split
    · exact refl
    · exact bindCar _ _ _
  · exact setForeign _ _ _

theorem delivered (f : LineFrame) (s : State) : CarriesLaws s (delivered f s) := by
  unfold Machine.delivered
  split
  · exact openRound s
  · exact exch _ s
  · split
    · exact (nodeNamed _ _ _).trans (endRound _ _)
    · exact (nodeJoined _ _ _).trans (exch _ _)
  · split
    · exact (parkSerial _ s).trans (endRound _ _)
    · exact ((parkSerial _ s).trans (link _ _)).trans (exch _ _)
  · exact askAfter _ s
  all_goals exact exch _ s

theorem undelivered (f : LineFrame) (s : State) : CarriesLaws s (undelivered f s) := by
  unfold Machine.undelivered
  split
  · exact openRound s
  · exact endRound _ s
  · split
    · exact endRound _ s
    · exact exch _ s
  · split
    · exact endRound _ s
    · exact exch _ s
  · exact askAfter _ s
  · exact askAfter _ s
  all_goals exact exch _ s

theorem resumeCut (s : State) : CarriesLaws s (resumeCut s) := by
  unfold Machine.resumeCut
  split <;> exact exch _ s

theorem echoMatched (s : State) : CarriesLaws s (echoMatched s) := by
  have matched : CarriesLaws s (s.setLine { s.line with echoCount := 0 }) := line _ rfl rfl
  unfold Machine.echoMatched
  dsimp only
  split
  · exact matched.trans (delivered _ _)
  · exact (matched.trans (keepAlert _ _ _ _)).trans (exch _ _)
  · exact matched.trans (exch _ _)
  · exact matched.trans (resumeCut _)
  all_goals exact refl

theorem echoMismatched (s : State) : CarriesLaws s (echoMismatched s) := by
  have counted := countMismatch s
  have halted := counted.trans (haltLine _)
  unfold Machine.echoMismatched
  dsimp only
  split
  · split
    · exact halted
    · exact counted.trans (undelivered _ _)
  · split
    · exact halted
    · exact counted.trans (exch _ _)
  · split
    · exact halted
    · exact counted.trans (resumeCut _)
  all_goals exact refl

theorem hearEcho (isMatch : Bool) (s : State) : CarriesLaws s (hearEcho isMatch s) := by
  cases isMatch
  · exact echoMismatched s
  · exact echoMatched s

theorem handleNodeTransfer (tag car direction item : Byte) (value : Half) (s : State) :
    CarriesLaws s (handleNodeTransfer tag car direction item value s) := by
  unfold Machine.handleNodeTransfer
  dsimp only
  split
  · exact link _ _
  · split
    · exact link _ _
    · split
      · exact link _ _
      · split
        · exact link _ _
        · exact line _ rfl rfl

end CarriesLaws
end Sys2Proof.Machine

namespace Sys2Proof.Machine

open Sys2Proof

/-! ## What leaves the mode controller -/

@[simp] theorem State.raiseIf_ctl (s : State) (c : Bool) (k : NoticeKind) (f : Half) :
    (s.raiseIf c k f).ctl = s.ctl := by cases c <;> rfl

@[simp] theorem evaluateLookAhead_ctl (s : State) : (evaluateLookAhead s).ctl = s.ctl := by
  rcases evaluateLookAhead_cases s with h | ⟨-, -, h⟩ | ⟨-, -, h⟩ <;> rw [h] <;> rfl

@[simp] theorem evaluateTrust_ctl (s : State) : (evaluateTrust s).ctl = s.ctl := by
  rcases evaluateTrust_cases s with h | ⟨-, h⟩
  · rw [h]
  · rw [h]; rfl

@[simp] theorem slotInRun_ctl (c : SlotChoice) (s : State) : (slotInRun c s).ctl = s.ctl := by
  simp [slotInRun, trimRing, releaseSegments, expireCaptures]

@[simp] theorem applyFix_ctl (n : Nat) (d : Int) (s : State) : (applyFix n d s).ctl = s.ctl := by
  simp [applyFix]

theorem handleResolveCapture_ctl (tag : Byte) (number : Half) (x : Word) (s : State) :
    (handleResolveCapture tag number x s).ctl = s.ctl := by
  unfold handleResolveCapture
  dsimp only
  split
  · rfl
  · split
    · exact applyFix_ctl _ _ _
    · split
      · split <;> rfl
      · rfl

theorem handleOpenBatch_ctl (tag : Byte) (declared : Word) (s : State) :
    (handleOpenBatch tag declared s).ctl = s.ctl := by
  unfold handleOpenBatch
  split <;> rfl

theorem handleAddSegments_ctl (tag count : Byte) (records : List SegmentWire) (s : State) :
    (handleAddSegments tag count records s).ctl = s.ctl := by
  unfold handleAddSegments
  split
  · rfl
  · split
    · rfl
    · split
      · rfl
      · split <;> rfl

theorem handleCloseBatch_ctl (tag count : Byte) (s : State) : (handleCloseBatch tag count s).ctl = s.ctl := by
  unfold handleCloseBatch
  split
  · rfl
  · split
    · rfl
    · exact evaluateLookAhead_ctl _

theorem handleTruncate_ctl (tag : Byte) (x : Word) (s : State) : (handleTruncate tag x s).ctl = s.ctl := by
  unfold handleTruncate
  dsimp only
  split
  · rfl
  · split
    · rfl
    · split
      · rfl
      · exact evaluateLookAhead_ctl _

namespace CarriesLaws

/-! ### The odometer -/

theorem failTacho (n : TachoName) (s : State) : CarriesLaws s (failTacho n s) := by
  unfold Machine.failTacho
  split
  · exact quiet (by cases n <;> rfl) rfl rfl
  · exact refl

theorem takeSlot (s : State) : CarriesLaws s (takeSlot s) := by
  have measured (a b : Tacho) : CarriesLaws s (s.setOdo { s.odo with tachoA := a, tachoB := b }) := quiet rfl rfl rfl
  have entered (c : SlotChoice) (u : State) : CarriesLaws u (u.setOdo (enterSpeed c u.odo)) := quiet rfl rfl rfl
  have running (c : SlotChoice) (u : State) : CarriesLaws u (if u.ctl.run then slotInRun c u else u) := by
    split
    · next run => exact inRun run (slotInRun_ctl _ _) (slotInRun_train _ _)
    · exact refl
  exact ((((measured _ _).trans (failTacho .a _)).trans (failTacho .b _)).trans (entered _ _)).trans (running _ _)

theorem acceptHigh (s : State) : CarriesLaws s (acceptHigh s) := by
  have high : CarriesLaws s (s.setOdo { s.odo with marker := true, markerCount := 0 }) := quiet rfl rfl rfl
  refine high.trans (show CarriesLaws _ (captureEdge _) from ?_)
  unfold captureEdge
  split
  · next run =>
    split
    · exact inRun run (by simp [appendCapture]) (by simp [appendCapture])
    · exact link _ _
  · exact refl

theorem sampleMarker (isHigh : Bool) (s : State) : CarriesLaws s (sampleMarker isHigh s) := by
  unfold Machine.sampleMarker
  split
  · exact quiet rfl rfl rfl
  · split
    · exact quiet rfl rfl rfl
    · split
      · exact acceptHigh s
      · exact quiet rfl rfl rfl

theorem markerRises (s : State) : CarriesLaws s (markerRises s) := by
  unfold Machine.markerRises
  split
  · exact refl
  · exact acceptHigh s

theorem decodePulse (n : TachoName) (levels : Pair) (s : State) : CarriesLaws s (decodePulse n levels s) :=
  quiet (by cases n <;> rfl) rfl rfl

/-! ### The planner and telemetry -/

theorem countReport (s : State) : CarriesLaws s (countReport s) := by
  unfold Machine.countReport
  split
  · exact refl
  · dsimp only
    split <;> exact link _ _

theorem hearReport (s : State) : CarriesLaws s (hearReport s) := by
  unfold Machine.hearReport
  split
  · exact countReport s
  · exact refl

theorem plan (s : State) (p : Planner) : CarriesLaws s (s.setPlan p) := quiet rfl rfl rfl

theorem testExhaustion (s : State) : CarriesLaws s (testExhaustion s) := by
  unfold Machine.testExhaustion
  split
  · exact (plan s _).trans (raiseIf _ _ _ _)
  · exact plan s _

theorem computePlan (s : State) : CarriesLaws s (computePlan s) := by
  unfold Machine.computePlan
  split
  · exact ((plan s _).trans (testExhaustion _)).trans (countReport _)
  · exact refl

/-! ### The inhibit filter (R28 to R30) -/

theorem inhibitCounted {n : Nat} (h : n ≤ 2) (s : State) :
    CarriesLaws s (s.setCtl { s.ctl with inhibitCount := n }) := by
  refine modeChange (fun law => ?_) rfl rfl rfl rfl fun law => law.congr rfl rfl
  obtain ⟨setup, tilting, active, inhibited, latched, -⟩ := law
  exact ⟨setup, tilting, active, inhibited, latched, h⟩

theorem acceptReleased (s : State) : CarriesLaws s (acceptReleased s) := by
  refine modeChange (fun law => ?_) rfl rfl rfl rfl fun law => law.congr rfl rfl
  obtain ⟨setup, tilting, active, inhibited, -, -⟩ := law
  exact ⟨setup, tilting, fun m => ⟨rfl, (active m).2⟩, inhibited, nofun, Nat.zero_le 2⟩

/-- In ACTIVE an accepted assertion leaves the run over the CYCLING line and latches (R29). -/
theorem acceptAsserted (s : State) : CarriesLaws s (acceptAsserted s) := by
  unfold Machine.acceptAsserted
  dsimp only
  split
  · next active =>
    refine modeChange (fun law => ?_) rfl rfl rfl rfl fun _ => centreLaw_reevaluate _
    obtain ⟨-, tilting, -⟩ := law
    exact ⟨nofun, fun _ => tilting (.inl active), nofun, fun _ => rfl, fun _ => rfl, Nat.zero_le 2⟩
  · next other =>
    refine modeChange (fun law => ?_) rfl rfl rfl rfl fun law => law.congr rfl rfl
    obtain ⟨setup, tilting, -, -, -, -⟩ := law
    exact ⟨setup, tilting, fun m => absurd m other, fun _ => rfl, fun _ => rfl, Nat.zero_le 2⟩

theorem sampleInhibit (asserted : Bool) (s : State) : CarriesLaws s (sampleInhibit asserted s) := by
  unfold Machine.sampleInhibit
  split
  · exact inhibitCounted (by decide) s
  · split
    · exact inhibitCounted (by omega) s
    · split
      · exact acceptAsserted s
      · exact acceptReleased s

theorem inhibitAsserted (s : State) : CarriesLaws s (inhibitAsserted s) := by
  unfold Machine.inhibitAsserted
  split
  · exact refl
  · exact acceptAsserted s

theorem inhibitReleased (s : State) : CarriesLaws s (inhibitReleased s) := by
  unfold Machine.inhibitReleased
  split
  · exact acceptReleased s
  · exact refl

/-! ### The requests of the mode controller, in their modes (R18, R21 to R27) -/

theorem handleCommission (tag : Byte) (s : State) : CarriesLaws s (handleCommission tag s) := by
  unfold Machine.handleCommission
  split
  · exact modeChange (ModeLaw.toStandby rfl rfl rfl rfl) rfl rfl rfl rfl fun law => law.congr rfl rfl
  · exact link _ _

theorem handleReturnToSetup (tag : Byte) {s : State} (run : s.ctl.run = false) :
    CarriesLaws s (handleReturnToSetup tag s) := by
  unfold Machine.handleReturnToSetup
  split
  · exact link _ _
  · exact modeChange (ModeLaw.toSetup rfl run rfl rfl rfl) rfl rfl rfl rfl fun law => law.congr rfl rfl

theorem handleStartRun (tag : Byte) (origin : Word) {s : State} (mode : s.ctl.mode = .standby) :
    CarriesLaws s (handleStartRun tag origin s) := by
  unfold Machine.handleStartRun
  split
  · exact ⟨ModeLaw.toStandby mode rfl rfl rfl, fun _ => runLaw_of_run rfl, fun law => law.congr rfl rfl⟩
  · exact link _ _

theorem handleEndRun (tag : Byte) {s : State} (mode : s.ctl.mode = .standby) :
    CarriesLaws s (handleEndRun tag s) :=
  ⟨ModeLaw.toStandby mode rfl rfl rfl, fun _ _ => ⟨rfl, rfl, rfl, rfl, rfl⟩, fun law => law.congr rfl rfl⟩

/-- Tilt is enabled in a run over a CYCLING line with the inhibit released (R25, R27). -/
theorem enterActive {s : State} (run : ModeLaw s → s.ctl.run = true ∧ s.line.state = .cycling)
    (released : s.ctl.inhibit = false) : CarriesLaws s (enterActive s) := by
  refine modeChange (fun law => ?_) rfl rfl rfl rfl fun law => law.congr rfl rfl
  have counted : s.ctl.inhibitCount ≤ 2 := law.2.2.2.2.2
  exact ⟨nofun, fun _ => run law, fun _ => ⟨released, rfl⟩, nofun,
    fun h => absurd (released.symm.trans h) (by decide), counted⟩

theorem handleEnableTilt (tag : Byte) {s : State} (run : s.ctl.run = true) :
    CarriesLaws s (handleEnableTilt tag s) := by
  unfold Machine.handleEnableTilt
  split
  · exact link _ _
  · next cycling =>
    split
    · exact link _ _
    · next released =>
      exact (enterActive (fun _ => ⟨run, not_not.1 cycling⟩) (by simpa using released)).trans (link _ _)

theorem handleResumeTilt (tag : Byte) {s : State} (mode : s.ctl.mode = .inhibited) :
    CarriesLaws s (handleResumeTilt tag s) := by
  unfold Machine.handleResumeTilt
  split
  · exact link _ _
  · next released =>
    exact (enterActive (fun law => law.2.1 (.inr mode)) (by simpa using released)).trans (link _ _)

theorem handleDisableTilt (tag : Byte) (s : State) : CarriesLaws s (handleDisableTilt tag s) := by
  have withdrawn : CarriesLaws s (returnAll (setMode .standby s)).reevaluate :=
    modeChange (ModeLaw.toStandby rfl rfl rfl rfl) rfl rfl rfl rfl fun _ => centreLaw_reevaluate _
  exact withdrawn.trans (link _ _)

/-! ### The formation and the parameters -/

/-- In SETUP the ladder asks nothing of the line, which a new formation stops (R6). -/
theorem handleSetFormation (tag count : Byte) (records : List CarWire) {s : State} (mode : s.ctl.mode = .setup) :
    CarriesLaws s (handleSetFormation tag count records s) := by
  have loaded (cars : List Car) : CarriesLaws s (loadFormation cars s) := by
    rw [loadFormation_eq]
    exact modeChange (fun law => ModeLaw.toSetup (s := s) mode (law.1 mode) rfl rfl rfl law) rfl rfl rfl rfl
      fun _ => (centreLaw_iff _).2 rfl
  unfold Machine.handleSetFormation
  split
  · exact link _ _
  · split
    · exact link _ _
    · exact (loaded _).trans (link _ _)

/-- Of the parameters CENTRE_OK reads centreBand alone. -/
theorem params {s : State} (p : Params) :
    CarriesLaws s (if p.centreBand = s.params.centreBand then s.setParams p else (s.setParams p).reevaluate) := by
  split
  · next band => exact quiet rfl rfl (by simp only [State.centreView, State.setParams_params, band]; rfl)
  · exact recheck _ rfl

theorem handleSetParameters (tag : Byte) (v : Vector Word 28) (s : State) :
    CarriesLaws s (handleSetParameters tag v s) := by
  unfold Machine.handleSetParameters
  split
  · exact link _ _
  · exact (params (paramsOf v)).trans (link _ _)

end CarriesLaws

/-! ## Every step carries the three laws -/

/-- An owner carries the laws over where the link admits its request. -/
theorem serve_carries (tag : Byte) (r : Request) {s : State} (h : admitted r s = true) :
    CarriesLaws s (serve tag r s) := by
  cases r <;> simp only [admitted, Bool.and_eq_true, Bool.or_eq_true, beq_iff_eq, Bool.not_eq_true'] at h
  case identify => exact .link _ _
  case queryStatus => exact .link _ _
  case commission => exact .handleCommission _ _
  case returnToSetup => exact .handleReturnToSetup _ h.2
  case startRun origin => exact .handleStartRun _ _ h.1
  case endRun => exact .handleEndRun _ h.1
  case enableTilt => exact .handleEnableTilt _ h.2
  case disableTilt => exact .handleDisableTilt _ _
  case resumeTilt => exact .handleResumeTilt _ h
  case reset => exact .link _ _
  case setParameters v => exact .handleSetParameters _ _ _
  case getParameters => exact .link _ _
  case setFormation count r1 r2 r3 records => exact .handleSetFormation _ _ _ h
  case getFormation => exact .link _ _
  case resolveCapture n r2 r3 x =>
    exact .inRun h (handleResolveCapture_ctl _ _ _ _) (handleResolveCapture_train _ _ _ _)
  case queryPosition => exact .link _ _
  case openBatch declared => exact .inRun h (handleOpenBatch_ctl _ _ _) (handleOpenBatch_train _ _ _)
  case addSegments count r1 r2 r3 records =>
    exact .inRun h (handleAddSegments_ctl _ _ _ _) (handleAddSegments_train _ _ _ _)
  case closeBatch count => exact .inRun h (handleCloseBatch_ctl _ _ _) (handleCloseBatch_train _ _ _)
  case truncateGeometry x => exact .inRun h (handleTruncate_ctl _ _ _) (handleTruncate_train _ _ _)
  case queryGeometry => exact .link _ _
  case queryCar car => exact .handleQueryCar _ _ _
  case clearCarFault car => exact .handleClearCarFault _ _ _
  case rollCall => exact .handleRollCall _ h
  case nodeTransfer car direction item r3 value => exact .handleNodeTransfer _ _ _ _ _ _
  case readAlerts => exact .quiet rfl rfl rfl
  case setReporting period => exact .link _ _

/-- An event carries the laws over. -/
theorem event_carries {c : Instr} {f : State → State} (h : eventOf c = some f) (s : State) : CarriesLaws s (f s) := by
  cases c <;> simp only [eventOf, Option.some.injEq, reduceCtorEq] at h <;> subst h
  case inhibitSample asserted => exact .sampleInhibit _ _
  case inhibitAsserted => exact .inhibitAsserted _
  case inhibitReleased => exact .inhibitReleased _
  case markerSample isHigh => exact .sampleMarker _ _
  case markerRisingEdge => exact .markerRises _
  case pulseDecode channel levels => exact .decodePulse _ _ _
  case odometrySlot => exact .takeSlot _
  case tachoFailed channel => exact .failTacho _ _
  case plannerComputation => exact .computePlan _
  case telemetryCountdown => exact .hearReport _
  case targetListArrival => exact .takeTargets _
  case lineCycle => exact .startCycle _
  case frameEcho isMatch => exact .hearEcho _ _
  case lineHalt => exact .haltCarrying _
  case stat => exact .hearStat _ _ _ _ _ _
  case tracking car => exact .testTracking _ _
  case replySilence => exact .noReply _
  case nodeLost car => exact .hearNodeLost _ _
  case mrsp => exact .hearMrsp _ _ _ _
  case claimRound outcome => exact .hearRound _ _
  case musterEnd => exact .hearMusterEnd _
  case contentionKey key => exact .hearKey _ _
  case alrt => exact .hearAlrt _ _ _ _

/-- Every step carries the mode ladder, the law of run state and CENTRE_OK over. -/
theorem step_carries {s t : State} (h : step s = .next t) : CarriesLaws s t :=
  KeptByParts.step (P := CarriesLaws s)
    { queue := fun _ _ m => m.trans (.quiet rfl rfl rfl)
      reset := fun _ q pins m => m.trans (.reset q pins)
      held := fun u m => m.trans (.holdInReset u)
      link := fun u l m => m.trans (.link u l)
      reported := fun u m => m.trans (.clearUnreported u)
      serve := fun tag r _ _ ha _ m => m.trans (serve_carries tag r ha)
      event := fun _ _ u he m => m.trans (event_carries he u) } .refl h

/-- Settles O7: every step carries the mode ladder over. -/
theorem stepsKeepTheModeLadder : Obligations.StepsKeepTheModeLadder :=
  fun _ _ law h => (step_carries h).mode law

/-- Settles O8: every step carries the law of run state over. -/
theorem stepsKeepRunStateInRuns : Obligations.StepsKeepRunStateInRuns :=
  fun _ _ law h => (step_carries h).run law

/-- Settles O11: every step leaves CENTRE_OK untouched with its conditions, or re-evaluates it last. -/
theorem stepsKeepCentreConfirmTrue : Obligations.StepsKeepCentreConfirmTrue :=
  fun _ _ law h => (step_carries h).centre law

end Sys2Proof.Machine

namespace Sys2Proof.Machine

open Sys2Proof

/-! ## Right after reset (R17, R32, R86, R97, R121, R142, R143, R185) -/

/-- Settles O6: after reset there is no car, no run, no line and nothing but the MODE notice in the link. -/
theorem everyLawHoldsAtReset : Obligations.EveryLawHoldsAtReset := by
  obtain ⟨table, binding, bound, foreign⟩ :=
    (inOrder_iff State.reset).2 ⟨.reset _ _, .none rfl (fun _ _ => nofun)⟩
  have none : State.reset.chans = [] := rfl
  refine ⟨modeLaw_afterReset _ _, runLaw_afterReset _ _, ?channels, ?faults, centreLaw_afterReset _ _,
    formationLaw_of_none rfl, table, binding, bound, foreign, paramsLaw_of_defaults rfl, ?odometer, ?captures, ?ring,
    ?geometry, ?deferred, ?line, ?link⟩
  case channels => simp [ChannelLaw, none]
  case faults => simp [FaultLaw, none]
  case odometer => unfold OdometerLaw Tacho.Sound; decide
  case captures => 
    refine ⟨by decide, .nil, nofun, fun n hn => ?_⟩
    obtain rfl : 1 = n := Option.some.inj hn
    exact ⟨by decide, by decide, nofun⟩
  case ring => exact ⟨by decide, .nil, nofun⟩
  case geometry => exact ⟨by decide, rfl, nofun, nofun⟩
  case deferred => unfold DeferredLaw; decide
  case line => exact ⟨by decide, by decide, by decide, by decide, nofun⟩
  case link =>
    exact ⟨.inr ⟨[], Pins.low, rfl⟩, nofun, by decide, by decide, by decide, by decide, by decide, by decide,
      fun _ => rfl, nofun⟩

end Sys2Proof.Machine

namespace Sys2Proof.Machine

open Sys2Proof

/-! ## The requests of the mode controller on a free link (R21 to R27) -/

/-- An admitted request with no reserved byte, on a free link, is its owner's. -/
theorem exec_served {c : Instr} {tag : Byte} {r : Request} {s : State} (free : LinkFree s)
    (h : commandRequest c = some (tag, r)) (length : lengthAgrees r = true) (mode : admitted r s = true)
    (zero : reservedFault r = none) : exec c s = .next (chooseIfIdle (serve tag r s)) := by
  rw [exec_request free h, handleRequest_serve tag r s length mode zero]

theorem formationExists_iff (s : State) : formationExists s = true ↔ s.cars ≠ [] := by
  simp [formationExists]

theorem anyReturning_iff (s : State) : anyReturning s = true ↔ ∃ c ∈ s.chans, c.state = .returning := by
  simp [anyReturning]

/-- Settles O30: the owner of each request, past the link's checks, on each side of its own check. -/
theorem commissionAndReturnChangeTheMode : Obligations.CommissionAndReturnChangeTheMode := by
  intro s tag free
  have commission (mode : s.ctl.mode = .setup) :=
    exec_served (c := .commission tag) free rfl rfl (by simp [admitted, mode]) rfl
  have back (mode : s.ctl.mode = .standby) (run : s.ctl.run = false) :=
    exec_served (c := .returnToSetup tag) free rfl rfl (by simp [admitted, mode, run]) rfl
  refine ⟨fun mode cars => ?_, fun mode cars => ?_, fun mode run still => ?_, fun mode run moving => ?_⟩
  · rw [commission mode, serve, handleCommission, if_pos ((formationExists_iff s).2 cars)]
    rfl
  · rw [commission mode, serve, handleCommission, if_neg fun h => (formationExists_iff s).1 h cars]
    rfl
  · have none : ¬anyReturning s = true := fun h => by
      obtain ⟨c, hc, moving⟩ := (anyReturning_iff s).1 h
      exact still c hc moving
    have body : modeBody (setMode .setup s) = [0, 0, 0, 0] := by
      simp [modeBody, setMode, run, modeCode, yesNo, reserved]
    rw [back mode run, serve, handleReturnToSetup, if_neg none]
    dsimp only
    rw [body]
    rfl
  · rw [back mode run, serve, handleReturnToSetup, if_pos ((anyReturning_iff s).2 moving)]
    rfl

/-- Withdrawing tilt moves no car out of the moving ones, so CENTRE_OK stands (R126). -/
theorem centreConditions_returnAll (s : State) : centreConditions (returnAll s) = centreConditions s := by
  refine centreConditions_view ?_
  have same : (s.chans.map Channel.toReturning).map (fun c => (isMoving c, c.angle)) =
      s.chans.map (fun c => (isMoving c, c.angle)) := by
    rw [List.map_map]
    refine congrArg (fun g => s.chans.map g) (funext fun c => ?_)
    have angle : c.toReturning.angle = c.angle := by
      unfold Channel.toReturning
      split <;> rfl
    simp only [Function.comp_apply, isMoving_toReturning, angle]
  show (_, _, (s.chans.map Channel.toReturning).map (fun c => (isMoving c, c.angle)), _) = _
  rw [same]; rfl

/-- Where CENTRE_OK stands true, the return of the FOLLOWING cars leaves its level. -/
theorem reevaluate_returnAll {s : State} (h : CentreLaw s) : (returnAll s).reevaluate = returnAll s := by
  rw [State.reevaluate_eq, centreConditions_returnAll, ← (centreLaw_iff s).1 h]
  rfl

/-- Where CENTRE_OK stands true, a mode change made without a request leaves its level (R29, R31). -/
theorem leaveActive_stands (m : Mode) (c : Cause) {s : State} (h : CentreLaw s) :
    leaveActive m c s =
      { s with
        chans := s.chans.map Channel.toReturning
        ctl := { s.ctl with mode := m, cause := c }
        link := { s.link with notices := { s.link.notices with
                  mode := { pending := true, flags := s.link.notices.mode.flags } } } } := by
  have raised : s.link.notices.raise .mode noFlag =
      { s.link.notices with mode := { pending := true, flags := s.link.notices.mode.flags } } := by
    simp [Notices.raise, Notices.set, Notices.get, noFlag]
  have stands : CentreLaw ((s.setCtl { s.ctl with mode := m, cause := c }).raise .mode noFlag) := h.congr rfl rfl
  rw [← raised]
  exact reevaluate_returnAll stands

/-- Settles O31: the owners' checks in order, and CENTRE_OK standing over the return of the cars. -/
theorem tiltIsEnabledAndWithdrawnByRequest : Obligations.TiltIsEnabledAndWithdrawnByRequest := by
  intro s tag free
  have enable (mode : s.ctl.mode = .standby) (run : s.ctl.run = true) :=
    exec_served (c := .enableTilt tag) free rfl rfl (by simp [admitted, mode, run]) rfl
  have resume (mode : s.ctl.mode = .inhibited) :=
    exec_served (c := .resumeTilt tag) free rfl rfl (by simp [admitted, mode]) rfl
  have disable (mode : s.ctl.mode = .active ∨ s.ctl.mode = .inhibited) :=
    exec_served (c := .disableTilt tag) free rfl rfl (by simpa [admitted] using mode) rfl
  refine ⟨fun mode run => ⟨fun line => ?_, fun line inhibit => ?_, fun line inhibit => ?_⟩,
    fun mode => ⟨fun inhibit => ?_, fun inhibit => ?_⟩, fun centre mode => ?_⟩
  · rw [enable mode run, serve, handleEnableTilt, if_pos line]
    rfl
  · rw [enable mode run, serve, handleEnableTilt, if_neg (not_not.2 line), if_pos inhibit]
    rfl
  · have body : modeBody (enterActive s) = [2, 1, 0, 0] := by
      simp [modeBody, enterActive, run, modeCode, yesNo, reserved]
    rw [enable mode run, serve, handleEnableTilt, if_neg (not_not.2 line), if_neg (by simp [inhibit])]
    dsimp only
    rw [body]
    rfl
  · rw [resume mode, serve, handleResumeTilt, if_pos inhibit]
    rfl
  · rw [resume mode, serve, handleResumeTilt, if_neg (by simp [inhibit])]
    rfl
  · have stands : CentreLaw (setMode .standby s) := centre.congr rfl rfl
    rw [disable mode, serve, handleDisableTilt, reevaluate_returnAll stands]
    rfl

theorem inRoute_iff (x : Int) : inRoute x = true ↔ -2000000000 ≤ x ∧ x ≤ 2000000000 := decide_eq_true_iff

/-- A position that a request carries is sent back as its own bytes (R187). -/
theorem i32_toInt (x : Word) : i32 x.toInt = bytes4 x := by
  have low := x.le_toInt
  have high := x.toInt_lt
  rw [i32, saturatePos_of_mem (by simpa [Config.posMin] using low) (by simp only [Config.posMax]; omega),
    BitVec.ofInt_toInt]

/-- Settles O32: the start and the end of a run as their owner writes them, the origin sent back as it came. -/
theorem runsStartAndEndInEveryBlock : Obligations.RunsStartAndEndInEveryBlock := by
  intro s tag free mode
  have start (origin : Word) (run : s.ctl.run = false) :=
    exec_served (c := .startRun tag origin) free rfl rfl (by simp [admitted, mode, run]) rfl
  refine ⟨fun origin run inside => ?_, fun origin run outside => ?_, fun run => ?_⟩
  · have body : modeBody (beginRun origin.toInt s) ++ i32 (beginRun origin.toInt s).odo.pos =
        [1, 1, 0, 0] ++ bytes4 origin := by
      rw [show (beginRun origin.toInt s).odo.pos = origin.toInt from rfl, i32_toInt]
      simp [modeBody, beginRun, mode, modeCode, yesNo, reserved]
    rw [start origin run, serve, handleStartRun, if_pos ((inRoute_iff _).2 inside)]
    dsimp only
    rw [body]
    rfl
  · rw [start origin run, serve, handleStartRun, if_neg fun h => outside ((inRoute_iff _).1 h)]
    rfl
  · have body : modeBody (finishRun s) = [1, 0, 0, 0] := by
      simp [modeBody, finishRun, mode, modeCode, yesNo, reserved]
    rw [exec_served (c := .endRun tag) free rfl rfl (by simp [admitted, mode, run]) rfl, serve, handleEndRun, body]
    rfl

/-! ## The inhibit filter (R28 to R30) -/

/-- What an event of the outside does on a part that runs; where it leaves the link alone, nothing is chosen. -/
theorem exec_quiet_event {c : Instr} {f : State → State} {s : State} (running : Running s)
    (h : eventOf c = some f) (link : (f s).link = s.link) : exec c s = .next (f s) := by
  rw [exec_event s h, act_running f running, chooseIfIdle_settled]
  unfold Settled
  rw [link]
  exact running.2

/-- The third opposing sample and the acceptance as a command act alike (R28; log entry 4). -/
theorem inhibit_accepted {s : State} {c : Instr} (inhibit : s.ctl.inhibit = false)
    (h : c = .inhibitAsserted ∨ (c = .inhibitSample true ∧ s.ctl.inhibitCount = 2)) :
    ∃ f, eventOf c = some f ∧ f s = acceptAsserted s := by
  rcases h with rfl | ⟨rfl, count⟩
  · exact ⟨_, rfl, by simp [inhibitAsserted, inhibit]⟩
  · exact ⟨_, rfl, by simp [sampleInhibit, inhibit, count]⟩

theorem release_accepted {s : State} {c : Instr} (inhibit : s.ctl.inhibit = true)
    (h : c = .inhibitReleased ∨ (c = .inhibitSample false ∧ s.ctl.inhibitCount = 2)) :
    ∃ f, eventOf c = some f ∧ f s = acceptReleased s := by
  rcases h with rfl | ⟨rfl, count⟩
  · exact ⟨_, rfl, by simp [inhibitReleased, inhibit]⟩
  · exact ⟨_, rfl, by simp [sampleInhibit, inhibit, count]⟩

/-- Settles O41: the four ways of a sample, and the acceptances, which a third sample and a command share. -/
theorem inhibitIsFilteredLatchedAndWithdrawsTilt : Obligations.InhibitIsFilteredLatchedAndWithdrawsTilt := by
  intro s running
  refine ⟨?_, fun count => ?_, fun inhibit c h => ?_, fun inhibit c h => ⟨fun other => ?_, fun active centre => ?_⟩⟩
  · have same : sampleInhibit s.ctl.inhibit s = s.setCtl { s.ctl with inhibitCount := 0 } := if_pos rfl
    rw [exec_quiet_event running rfl (by rw [same]; rfl), same]
    rfl
  · have counted : sampleInhibit (!s.ctl.inhibit) s =
        s.setCtl { s.ctl with inhibitCount := s.ctl.inhibitCount + 1 } := by simp [sampleInhibit, count]
    rw [exec_quiet_event running rfl (by rw [counted]; rfl), counted]
    rfl
  · obtain ⟨f, he, hf⟩ := release_accepted inhibit h
    rw [exec_quiet_event running he (by rw [hf]; rfl), hf]
    rfl
  · obtain ⟨f, he, hf⟩ := inhibit_accepted inhibit h
    have latched : acceptAsserted s = s.setCtl { s.ctl with inhibit := true, inhibitCount := 0, latch := true } :=
      if_neg other
    rw [exec_quiet_event running he (by rw [hf, latched]; rfl), hf, latched]
    rfl
  · obtain ⟨f, he, hf⟩ := inhibit_accepted inhibit h
    have withdrawn : acceptAsserted s = leaveActive .inhibited .inhibit
        (s.setCtl { s.ctl with inhibit := true, inhibitCount := 0, latch := true }) := if_pos active
    have stands : CentreLaw (s.setCtl { s.ctl with inhibit := true, inhibitCount := 0, latch := true }) :=
      centre.congr rfl rfl
    rw [exec_event s he, act_running f running, hf, withdrawn, leaveActive_stands _ _ stands]
    rfl

end Sys2Proof.Machine

namespace Sys2Proof.Machine

open Sys2Proof

/-! ## The characters of a frame (R170) -/

/-- The exclusive or over a list says whether an odd number of its members have the property. -/
theorem foldl_xor_countP {α : Type} (p : α → Bool) (l : List α) (x : Bool) :
    l.foldl (fun y a => y ^^ p a) x = (x ^^ decide (l.countP p % 2 = 1)) := by
  induction l generalizing x with
  | nil => simp
  | cons a l ih =>
    rw [List.foldl_cons, ih, List.countP_cons]
    rcases Nat.mod_two_eq_zero_or_one (l.countP p) with e | e <;> cases x <;> cases h : p a <;>
      simp [e, Nat.add_mod]

/-- A byte is odd where an odd number of its bits are ones. -/
theorem isOdd_iff (b : Byte) : isOdd b = true ↔ (List.range 8).countP b.getLsbD % 2 = 1 := by
  rw [isOdd, foldl_xor_countP]
  simp

/-- The data bits and the parity bit hold an even number of ones (R170). -/
theorem charBits_even (b : Byte) : (List.range 9).countP (fun i => (charBits b).getLsbD (i + 1)) % 2 = 0 := by
  obtain ⟨-, data, parity, -⟩ := charBits_spec b
  have eight : (List.range 8).countP (fun i => (charBits b).getLsbD (i + 1)) = (List.range 8).countP b.getLsbD :=
    List.countP_congr fun i hi => by rw [data i (List.mem_range.1 hi)]
  rw [List.range_succ, List.countP_append, eight, List.countP_singleton, parity]
  have odd := isOdd_iff b
  split
  · next h => have := odd.1 h; omega
  · next h => have := mt odd.2 h; omega

/-! ## The first frame after a reset (R185) -/

/-- Every command but the two of RESET_N and FRAME_SENT acts between two choices of the transmitter. -/
theorem exec_acts {c : Instr} (pin : ∀ q, c ≠ .resetN q) (low : c ≠ .resetNAsserted) (sent : ∀ q, c ≠ .frameSent q) :
    ∃ f, ∀ s, exec c s = act f s := by
  cases hr : commandRequest c with
  | some x => exact ⟨_, fun s => exec_submit s hr⟩
  | none =>
    cases he : eventOf c with
    | some f => exact ⟨f, fun s => exec_event s he⟩
    | none =>
      cases c <;> simp only [commandRequest, eventOf, reduceCtorEq] at hr he
      case unknownKind => exact ⟨_, fun _ => rfl⟩
      case resetN pins => exact absurd rfl (pin pins)
      case resetNAsserted => exact absurd rfl low
      case frameSent pins => exact absurd rfl (sent pins)
      case characterReceived => exact ⟨_, fun _ => rfl⟩
      case rxdIdleLevel => exact ⟨_, fun _ => rfl⟩
      case characterTaken => exact ⟨_, fun _ => rfl⟩
      case frameEnd => exact ⟨_, fun _ => rfl⟩
      case gap => exact ⟨_, fun _ => rfl⟩

/-- Once an idle transmitter has begun a frame, a command finds the state that it would itself have begun with. -/
theorem act_after_choice (f : State → State) {s : State} (run : s.inReset = false)
    (run' : (chooseIfIdle s).inReset = false) (busy : (chooseIfIdle s).link.sending ≠ none) :
    act f s = act f (chooseIfIdle s) := by
  rw [act, act, chooseIfIdle_busy busy, unlessHeld, unlessHeld, run, run']
  rfl

/-- The end of a frame acts on a part that is not held in reset. -/
theorem exec_frameSent {s : State} (pins : Pins) (run : s.inReset = false) :
    exec (.frameSent pins) s = .next (frameSent pins s) := by
  show unlessHeld s (frameSent pins s) = _
  simp [unlessHeld, run]

/-- The MODE notice of a reset: the flag RESET, SETUP, the inhibit asserted and latched, no cause (R185, R191). -/
theorem noticeFrame_afterReset (p : List Instr) (pins : Pins) :
    noticeFrame (State.afterReset p pins) .mode = { kind := 0x60#8, tag := 0#8, body := [1, 0, 0, 1, 1, 0] } := by
  show Frame.mk 0x60#8 0#8 (bytes2 1#16 ++ [modeCode .setup, yesNo true, yesNo true, causeCode .none]) = _
  decide

theorem chooseIfIdle_afterReset (p : List Instr) (pins : Pins) :
    chooseIfIdle (State.afterReset p pins) = sendNotice .mode (State.afterReset p pins) := rfl

/-! ## The choice of an idle transmitter (R180) -/

theorem chooseIfIdle_idle {s : State} (h : s.link.sending = none) : chooseIfIdle s = choose s := if_pos h

theorem handOver_empty {s : State} (h : s.link.slot = none) : handOver s = s := by
  rw [handOver, h]

/-- No request is handed over while an accepted Reset waits (R36, R176). -/
theorem handOver_resetWaiting {s : State} (h : s.link.resetWaiting = true) : handOver s = s := by
  unfold handOver
  split
  · rw [if_neg (by simp [isReady, h])]
  · rfl

theorem handOver_ready {s : State} {g : Frame} (slot : s.link.slot = some g) (ready : isReady s = true) :
    handOver s = handleFrame g (s.setLink { s.link with slot := none }) := by
  rw [handOver, slot]
  exact if_pos ready

theorem choose_reply {s : State} {f : Frame} (h : s.link.reply = some f) :
    choose s = handOver (transmit f (s.setLink { s.link with reply := none })) := by rw [choose, h]

theorem choose_completion {s : State} {f : Frame} {rest : List Frame} (reply : s.link.reply = none)
    (h : s.link.completions = f :: rest) : choose s = transmit f (s.setLink { s.link with completions := rest }) := by
  rw [choose, reply, h]

theorem choose_notice {s : State} {k : NoticeKind} (reply : s.link.reply = none)
    (completions : s.link.completions = []) (h : firstNotice s = some k) : choose s = sendNotice k s := by
  rw [choose, reply, completions, h]

theorem choose_nothing {s : State} (reply : s.link.reply = none) (completions : s.link.completions = [])
    (h : firstNotice s = none) : choose s = s := by
  rw [choose, reply, completions, h]

/-- The order of priority puts before a kind exactly kinds of lower code (R181, R191). -/
theorem noticeOrder_split (k : NoticeKind) :
    ∃ before after, noticeOrder = before ++ k :: after ∧ ∀ j ∈ before, (noticeCode j).toNat < (noticeCode k).toNat :=
  ⟨noticeOrder.takeWhile (· != k), (noticeOrder.dropWhile (· != k)).tail, by cases k <;> rfl, by cases k <;> decide⟩

/-- The pending kind with no pending kind of lower code is the first. -/
theorem firstNotice_of_lowest {s : State} {k : NoticeKind} (pending : (s.link.notices.get k).pending = true)
    (lowest : ∀ j, (noticeCode j).toNat < (noticeCode k).toNat → (s.link.notices.get j).pending = false) :
    firstNotice s = some k := by
  obtain ⟨before, after, order, lower⟩ := noticeOrder_split k
  rw [firstNotice, order]
  refine List.find?_eq_some_iff_append.2 ⟨pending, before, after, rfl, fun j hj => ?_⟩
  rw [lowest j (lower j hj)]
  rfl

theorem firstNotice_none {s : State} (h : ∀ k, (s.link.notices.get k).pending = false) : firstNotice s = none :=
  List.find?_eq_none.2 fun k _ => by simp [h k]

theorem sendNotice_eq (k : NoticeKind) (s : State) :
    sendNotice k s =
      { s with
        link := { s.link with
          notices := s.link.notices.set k { pending := false, flags := 0#16 }
          sending := some (frameChars (noticeFrame s k)) }
        chans := if k = .cars then s.chans.map (fun c => { c with unreported := false }) else s.chans } := by
  unfold sendNotice
  dsimp only
  split <;> rfl

/-- Settles O59: the characters, the first choice after a reset, the end of a frame, and the choice case by case. -/
theorem theTransmitterChoosesAndResetTakesEffect : Obligations.TheTransmitterChoosesAndResetTakesEffect := by
  refine ⟨fun b => ?_, fun p pins c => ?_, fun s pins run => ?_, fun s idle => ?_⟩
  · obtain ⟨start, data, -, stop⟩ := charBits_spec b
    exact ⟨start, data, stop, charBits_even b⟩
  · have chosen := chooseIfIdle_afterReset p pins
    refine ⟨?_, fun pin low sent => ?_⟩
    · rw [chosen, sendNotice_eq, noticeFrame_afterReset]
      rfl
    · obtain ⟨f, hf⟩ := exec_acts pin low sent
      rw [hf, hf]
      refine act_after_choice f rfl (by rw [chosen]; rfl) (by rw [chosen, sendNotice_eq]; exact Option.some_ne_none _)
  · refine ⟨chooseIfIdle_busy, fun tag free => ?_, fun waiting reply sending => ?_, fun other => ?_⟩
    · rw [exec_served (c := .reset tag) free rfl rfl rfl rfl]
      rfl
    · have takes : sendsResetReply s = true := by
        simp [sendsResetReply, waiting, reply, Option.isSome_iff_ne_none, sending]
      rw [exec_frameSent pins run, frameSent, if_pos takes]
    · have goesOn : ¬sendsResetReply s = true := by
        rcases other with h | h | h <;> simp [sendsResetReply, h]
      rw [exec_frameSent pins run, frameSent, if_neg goesOn]
      exact congrArg _ (chooseIfIdle_idle rfl).symm
  · rw [chooseIfIdle_idle idle]
    refine ⟨fun f waiting reply => ?_, fun f reply slot => ?_, fun f g waiting reply slot => ?_,
      fun f rest reply completions => ?_, fun reply completions => ⟨fun k pending lowest => ?_, fun none => ?_⟩⟩
    · exact (choose_reply reply).trans (handOver_resetWaiting waiting)
    · exact (choose_reply reply).trans (handOver_empty slot)
    · have ready : isReady (transmit f (s.setLink { s.link with reply := none })) = true := by
        simp [isReady, transmit, waiting]
      exact (choose_reply reply).trans (handOver_ready slot ready)
    · exact choose_completion reply completions
    · exact (choose_notice reply completions (firstNotice_of_lowest pending lowest)).trans (sendNotice_eq k s)
    · exact choose_nothing reply completions (firstNotice_none none)

end Sys2Proof.Machine

namespace Sys2Proof.Machine

open Sys2Proof

/-! ## Identify and QueryStatus (R19, R20, R34, R191) -/

/-- A field of one byte is that byte. -/
theorem natAt_byte (n : Nat) (body : List Byte) : natAt 1 n body = (body.getD n 0#8).toNat := by simp [natAt]

theorem yesNo_eq_one (b : Bool) : (yesNo b).toNat = 1 ↔ b = true := by cases b <;> decide

/-- The bytes of Identify after its header (R191). -/
def identityBytes (rate : Nat) : List Byte :=
  [0x12, 0x06, 1, 0, u8 rate, 0] ++ u32 (linkSpeed rate) ++ [12, 8, 8, 4, 0, 1, 32, 0, 0, 4, 0, 0]

theorem handleIdentify_eq (tag : Byte) (s : State) :
    handleIdentify tag s = s.respond (okFrame 0x01#8 tag (identityBytes s.ctl.rateCode)) := by
  have fixed : bytes2 Config.partCode = [0x12, 0x06] ∧
      [u8 Config.carCapacity, u8 Config.captureCapacity, u8 Config.alertCapacity, u8 Config.transferCapacity] ++
        u16 Config.committedCapacity ++ u16 Config.stagedCapacity ++ u16 Config.ringCapacity ++ reserved 2 =
          [12, 8, 8, 4, 0, 1, 32, 0, 0, 4, 0, 0] := by decide
  obtain ⟨part, sizes⟩ := fixed
  rw [handleIdentify, identityBytes, ← sizes, part]
  simp only [List.append_assoc, State.accept]
  rfl

/-- The speed doubles with each rate code (R34). -/
theorem linkSpeed_eq {rate : Nat} (h : rate ≤ 3) : linkSpeed rate = 115200 * 2 ^ rate := by
  interval_cases rate <;> rfl

/-- The reply's body is its header and what follows it. -/
theorem natAt_okFrame (n j : Nat) (code tag : Byte) (body : List Byte) :
    natAt n (4 + j) (okFrame code tag body).body = natAt n j body :=
  natAt_skip n j (header .ok .none 0) body

/-- The bytes of QueryStatus after its header (R191). -/
def statusBytes (s : State) : List Byte :=
  [modeCode s.ctl.mode, yesNo s.ctl.run, yesNo s.ctl.inhibit, yesNo s.ctl.latch, yesNo s.ctl.centreOk,
    causeCode s.ctl.cause, yesNo (formationExists s), u8 s.cars.length, lineStateCode s.line.state, 0#8] ++
    [ChanState.notFitted, .absent, .centred, .following, .returning, .failed].map (fun x => u8 (channelCount s x)) ++
    u16 s.link.bad ++ u16 s.link.broken ++ u16 s.link.refused

theorem handleQueryStatus_eq (tag : Byte) (s : State) :
    handleQueryStatus tag s = s.respond (okFrame 0x02#8 tag (statusBytes s)) := rfl

/-- The counts of the channels stand in the order of their states' codes. -/
theorem statusBytes_count (s : State) (x : ChanState) :
    (statusBytes s).getD (10 + (chanStateCode x).toNat) 0#8 = u8 (channelCount s x) := by
  cases x <;> rfl

/-- The counters of the link stand behind the codes and the counts. -/
theorem statusBytes_counters {s : State} (bad : s.link.bad ≤ 65535) (broken : s.link.broken ≤ 65535)
    (refused : s.link.refused ≤ 65535) :
    natAt 2 16 (statusBytes s) = s.link.bad ∧ natAt 2 18 (statusBytes s) = s.link.broken ∧
      natAt 2 20 (statusBytes s) = s.link.refused := by
  unfold statusBytes
  generalize hp : [modeCode s.ctl.mode, _, _, _, _, _, _, _, _, _] ++ List.map _ _ = pre
  have length : pre.length = 16 := by rw [← hp]; rfl
  have length2 (n : Nat) : (u16 n).length = 2 := rfl
  have at16 := natAt_skip 2 0 pre (u16 s.link.bad ++ (u16 s.link.broken ++ u16 s.link.refused))
  have at18 := natAt_skip 2 0 (pre ++ u16 s.link.bad) (u16 s.link.broken ++ u16 s.link.refused)
  have at20 := natAt_skip 2 0 (pre ++ u16 s.link.bad ++ u16 s.link.broken) (u16 s.link.refused ++ [])
  rw [natAt_u16 bad] at at16
  rw [natAt_u16 broken] at at18
  rw [natAt_u16 refused] at at20
  simp only [List.append_assoc, List.append_nil, List.length_append, length, length2] at at16 at18 at20 ⊢
  exact ⟨at16, at18, at20⟩

/-- Settles O23: each field read at its place behind the reply's header. -/
theorem statusRepliesCarryTheState : Obligations.StatusRepliesCarryTheState := by
  intro s tag free link formation table
  obtain ⟨-, -, -, bad, broken, refused, -⟩ := link
  have cars : s.cars.length ≤ 12 := formation.1
  have chans : s.chans.length = s.cars.length := table.1
  constructor
  · refine ⟨okFrame 0x01#8 tag (identityBytes s.ctl.rateCode), ?_, rfl, rfl, rfl, rfl, rfl, rfl, fun rate => ⟨?_, ?_⟩,
      rfl, rfl, rfl, rfl, rfl, rfl, rfl⟩
    · rw [exec_served (c := .identify tag) free rfl rfl rfl rfl, serve, handleIdentify_eq]
    · rw [natAt_okFrame 1 4, natAt_byte]
      exact u8_toNat (by omega)
    · have speed : linkSpeed s.ctl.rateCode ≤ 4294967295 := by
        unfold linkSpeed
        split <;> decide
      rw [natAt_okFrame 4 6, ← linkSpeed_eq rate, identityBytes, List.append_assoc]
      exact (natAt_skip 4 0 _ _).trans (natAt_u32 speed _)
  · have byte (n : Nat) : natAt 1 (4 + n) (okFrame 0x02#8 tag (statusBytes s)).body =
        ((statusBytes s).getD n 0#8).toNat := (natAt_okFrame 1 n _ _ _).trans (natAt_byte n _)
    have flag (n : Nat) (b : Bool) (h : (statusBytes s).getD n 0#8 = yesNo b) :
        natAt 1 (4 + n) (okFrame 0x02#8 tag (statusBytes s)).body = 1 ↔ b = true := by
      rw [byte, h, yesNo_eq_one]
    have count (x : ChanState) : s.chans.countP (fun c => c.state == x) ≤ 255 :=
      List.countP_le_length.trans (by omega)
    obtain ⟨bad16, broken18, refused20⟩ := statusBytes_counters bad broken refused
    refine ⟨okFrame 0x02#8 tag (statusBytes s), ?_, rfl, rfl, rfl, byte 0, flag 1 _ rfl, flag 2 _ rfl, flag 3 _ rfl,
      flag 4 _ rfl, byte 5, (flag 6 _ rfl).trans (formationExists_iff s), (byte 7).trans (u8_toNat (by omega)), byte 8,
      fun x => ?_, (natAt_okFrame 2 16 _ _ _).trans bad16, (natAt_okFrame 2 18 _ _ _).trans broken18,
      (natAt_okFrame 2 20 _ _ _).trans refused20⟩
    · rw [exec_served (c := .queryStatus tag) free rfl rfl rfl rfl, serve, handleQueryStatus_eq]
    · have place : 14 + (chanStateCode x).toNat = 4 + (10 + (chanStateCode x).toNat) := by omega
      rw [place, byte, statusBytes_count]
      exact u8_toNat (count x)

end Sys2Proof.Machine

namespace Sys2Proof.Machine

open Sys2Proof

/-! ## What leaves the odometer, the route geometry and the history ring -/

/-- The blocks that follow the train along its route: the odometer, the geometry store and the history ring. -/
def State.route (s : State) : Odometer × GeoStore × List Sample := (s.odo, s.geo, s.ring)

@[simp] theorem State.setCtl_route (s : State) (x : ModeCtl) : (s.setCtl x).route = s.route := rfl
@[simp] theorem State.setParams_route (s : State) (x : Params) : (s.setParams x).route = s.route := rfl
@[simp] theorem State.setPlan_route (s : State) (x : Planner) : (s.setPlan x).route = s.route := rfl
@[simp] theorem State.setChans_route (s : State) (x : List Channel) : (s.setChans x).route = s.route := rfl
@[simp] theorem State.setLine_route (s : State) (x : CarLine) : (s.setLine x).route = s.route := rfl
@[simp] theorem State.setLink_route (s : State) (x : HostLink) : (s.setLink x).route = s.route := rfl
@[simp] theorem State.raise_route (s : State) (k : NoticeKind) (f : Half) : (s.raise k f).route = s.route := rfl
@[simp] theorem State.reevaluate_route (s : State) : s.reevaluate.route = s.route := rfl

@[simp] theorem State.raiseIf_route (s : State) (c : Bool) (k : NoticeKind) (f : Half) :
    (s.raiseIf c k f).route = s.route := by cases c <;> rfl

/-! ### The channels, the mode controller and the planner -/

@[simp] theorem addFault_route (k : Nat) (kind : FaultKind) (s : State) : (addFault k kind s).route = s.route := by
  rw [addFault_frame]; rfl

@[simp] theorem bindCar_route (k : Nat) (x : Serial) (s : State) : (bindCar k x s).route = s.route := rfl
@[simp] theorem unbind_route (k : Nat) (s : State) : (unbind k s).route = s.route := rfl

@[simp] theorem loseNode_route (k : Nat) (s : State) : (loseNode k s).route = s.route := addFault_route _ _ _

@[simp] theorem trackingTest_route (k : Nat) (s : State) : (trackingTest k s).route = s.route := by
  unfold trackingTest
  split
  · rfl
  · split
    · rfl
    · split
      · dsimp only
        split <;> simp
      · rfl

@[simp] theorem notReadyTest_route (k : Nat) (cond : NodeCond) (s : State) :
    (notReadyTest k cond s).route = s.route := by
  unfold notReadyTest
  split <;> rfl

@[simp] theorem takeStat_route (k : Nat) (angle : Int) (cond : NodeCond) (flags : NodeFlags) (s : State) :
    (takeStat k angle cond flags s).route = s.route := by
  rw [takeStat, State.reevaluate_route]
  split <;> simp

theorem testTracking_route (k : Nat) (s : State) : (testTracking k s).route = s.route := by
  unfold testTracking
  split
  · exact trackingTest_route _ _
  · rfl

theorem takeTargets_route (s : State) : (takeTargets s).route = s.route := by
  unfold takeTargets
  split <;> rfl

theorem handleClearCarFault_route (tag car : Byte) (s : State) : (handleClearCarFault tag car s).route = s.route := by
  unfold handleClearCarFault
  dsimp only
  split
  · rfl
  · split
    · rfl
    · split <;> rfl

theorem handleQueryCar_route (tag car : Byte) (s : State) : (handleQueryCar tag car s).route = s.route := by
  unfold handleQueryCar
  dsimp only
  split
  · rfl
  · split <;> rfl

@[simp] theorem leaveActive_route (m : Mode) (c : Cause) (s : State) : (leaveActive m c s).route = s.route := rfl

@[simp] theorem acceptAsserted_route (s : State) : (acceptAsserted s).route = s.route := by
  unfold acceptAsserted
  dsimp only
  split <;> rfl

theorem sampleInhibit_route (asserted : Bool) (s : State) : (sampleInhibit asserted s).route = s.route := by
  unfold sampleInhibit
  split
  · rfl
  · split
    · rfl
    · split
      · exact acceptAsserted_route s
      · rfl

theorem inhibitAsserted_route (s : State) : (inhibitAsserted s).route = s.route := by
  unfold inhibitAsserted
  split
  · rfl
  · exact acceptAsserted_route s

theorem inhibitReleased_route (s : State) : (inhibitReleased s).route = s.route := by
  unfold inhibitReleased
  split <;> rfl

@[simp] theorem countReport_route (s : State) : (countReport s).route = s.route := by
  unfold countReport
  split
  · rfl
  · dsimp only
    split <;> rfl

theorem hearReport_route (s : State) : (hearReport s).route = s.route := by
  unfold hearReport
  split
  · exact countReport_route s
  · rfl

theorem computePlan_route (s : State) : (computePlan s).route = s.route := by
  unfold computePlan testExhaustion
  split
  · rw [countReport_route]
    dsimp only
    split
    · exact State.raiseIf_route _ _ _ _
    · rfl
  · rfl

/-! ### The car line -/

@[simp] theorem flushMaintenance_route (s : State) : (flushMaintenance s).route = s.route := rfl

@[simp] theorem completeHead_route (r : ResultCode) (value : Half) (s : State) :
    (completeHead r value s).route = s.route := by rw [completeHead_eq]; rfl

@[simp] theorem setExch_route (e : Exchange) (s : State) : (setExch e s).route = s.route := rfl
@[simp] theorem sendFrame_route (f : LineFrame) (s : State) : (sendFrame f s).route = s.route := rfl
@[simp] theorem setForeign_route (a : Nat) (x : Option Serial) (s : State) : (setForeign a x s).route = s.route := rfl
@[simp] theorem countMismatch_route (s : State) : (countMismatch s).route = s.route := rfl

@[simp] theorem parkSerial_route (x : Serial) (s : State) : (parkSerial x s).route = s.route := by
  unfold parkSerial
  split <;> rfl

@[simp] theorem completeRollCall_route (r : ResultCode) (d : Detail) (s : State) :
    (completeRollCall r d s).route = s.route := by
  rcases completeRollCall_cases r d s with ⟨-, e⟩ | ⟨m, -, e⟩ <;> rw [e]
  rfl

@[simp] theorem reportHalt_route (s : State) : (reportHalt s).route = s.route := by
  unfold reportHalt
  split <;> rfl

@[simp] theorem haltCars_route (ks : List Nat) (s : State) : (ks.foldl haltCar s).route = s.route := by
  induction ks generalizing s with
  | nil => rfl
  | cons k ks ih =>
    rw [List.foldl_cons, ih, haltCar]
    split
    · exact addFault_route _ _ _
    · rfl

@[simp] theorem haltLine_route (s : State) : (haltLine s).route = s.route := by simp [haltLine]

theorem haltCarrying_route (s : State) : (haltCarrying s).route = s.route := by
  unfold haltCarrying
  split
  · exact haltLine_route _
  · rfl

@[simp] theorem endMuster_route (overfull : Bool) (s : State) : (endMuster overfull s).route = s.route := by
  simp [endMuster]

@[simp] theorem openRound_route (s : State) : (openRound s).route = s.route := rfl

@[simp] theorem endRound_route (drew : Bool) (s : State) : (endRound drew s).route = s.route := by
  unfold endRound
  split
  · exact endMuster_route _ _
  · rfl

theorem hearMusterEnd_route (s : State) : (hearMusterEnd s).route = s.route := by
  unfold hearMusterEnd
  split
  · exact endMuster_route _ _
  · rfl

theorem handleRollCall_route (tag : Byte) (s : State) : (handleRollCall tag s).route = s.route := by
  unfold handleRollCall
  split
  · rfl
  · split
    · rfl
    · split
      · rfl
      · rw [startMuster, State.reevaluate_route, sendMuster]
        split <;> rfl

theorem hearRound_route (outcome : ClaimOutcome) (s : State) : (hearRound outcome s).route = s.route := by
  unfold hearRound
  split
  · cases outcome with
    | noClaim => exact endMuster_route _ _
    | garbled => exact endRound_route _ _
    | claim x =>
      show (answerClaim x s).route = s.route
      unfold answerClaim
      split
      · rfl
      · split
        · rfl
        · split <;> rfl
  · rfl

theorem answerJoin_route (x : Serial) (s : State) : (answerJoin x s).route = s.route := by
  unfold answerJoin
  split
  · dsimp only
    rw [sendFrame_route]
    split <;> simp
  · dsimp only
    split <;> rfl

theorem hearKey_route (key : WindowKey) (s : State) : (hearKey key s).route = s.route := by
  unfold hearKey
  split
  · cases key with
    | join x => exact answerJoin_route x s
    | _ => rfl
  · rfl

theorem startCycle_route (s : State) : (startCycle s).route = s.route := by
  unfold startCycle
  split <;> rfl

@[simp] theorem maintenanceSlot_route (s : State) : (maintenanceSlot s).route = s.route := by
  unfold maintenanceSlot
  split
  · rfl
  · split
    · rfl
    · exact completeHead_route _ _ _

@[simp] theorem askAfter_route (a : Nat) (s : State) : (askAfter a s).route = s.route := by
  unfold askAfter
  split
  · rfl
  · exact maintenanceSlot_route s

@[simp] theorem missAt_route (a : Nat) (s : State) : (missAt a s).route = s.route := by
  unfold missAt
  split
  · dsimp only
    split
    · rfl
    · split
      · exact loseNode_route _ _
      · rfl
  · rfl

theorem noReply_route (s : State) : (noReply s).route = s.route := by
  unfold noReply
  split
  · exact (askAfter_route _ _).trans (missAt_route _ _)
  · exact completeHead_route _ _ _
  all_goals rfl

theorem hearNodeLost_route (car : Nat) (s : State) : (hearNodeLost car s).route = s.route := by
  unfold hearNodeLost
  split
  · split
    · exact (askAfter_route _ _).trans (loseNode_route _ _)
    · exact loseNode_route _ _
  · rfl

theorem hearMrsp_route (address : Nat) (accepted : Bool) (value : Half) (s : State) :
    (hearMrsp address accepted value s).route = s.route := by
  unfold hearMrsp
  split
  · exact completeHead_route _ _ _
  · exact noReply_route s

theorem hearAlrt_route (address : Nat) (kind : AlertKind) (detail : Half) (s : State) :
    (hearAlrt address kind detail s).route = s.route := by
  unfold hearAlrt answerAlert
  split
  · split
    · split <;> rfl
    · rfl
  · exact noReply_route s

@[simp] theorem keepAlert_route (k : Nat) (kind : AlertKind) (detail : Half) (s : State) :
    (keepAlert k kind detail s).route = s.route := by
  unfold keepAlert
  dsimp only
  split <;> simp

@[simp] theorem nodeJoined_route (x : Serial) (a : Nat) (s : State) : (nodeJoined x a s).route = s.route := by
  unfold nodeJoined
  split <;> rfl

@[simp] theorem nodeNamed_route (x : Serial) (a : Nat) (s : State) : (nodeNamed x a s).route = s.route := by
  unfold nodeNamed
  split
  · split <;> rfl
  · rfl

@[simp] theorem delivered_route (f : LineFrame) (s : State) : (delivered f s).route = s.route := by
  unfold delivered
  split
  · rfl
  · rfl
  · split
    · exact (endRound_route _ _).trans (nodeNamed_route _ _ _)
    · exact nodeJoined_route _ _ _
  · split
    · exact (endRound_route _ _).trans (parkSerial_route _ _)
    · exact parkSerial_route _ _
  · exact askAfter_route _ _
  all_goals rfl

@[simp] theorem undelivered_route (f : LineFrame) (s : State) : (undelivered f s).route = s.route := by
  unfold undelivered
  split
  · rfl
  · exact endRound_route _ _
  · split
    · exact endRound_route _ _
    · rfl
  · split
    · exact endRound_route _ _
    · rfl
  · exact askAfter_route _ _
  · exact askAfter_route _ _
  all_goals rfl

@[simp] theorem resumeCut_route (s : State) : (resumeCut s).route = s.route := by
  unfold resumeCut
  split <;> rfl

theorem hearEcho_route (isMatch : Bool) (s : State) : (hearEcho isMatch s).route = s.route := by
  cases isMatch with
  | true =>
    show (echoMatched s).route = s.route
    unfold echoMatched
    dsimp only
    split
    · exact delivered_route _ _
    · exact keepAlert_route _ _ _ _
    · rfl
    · exact resumeCut_route _
    all_goals rfl
  | false =>
    have halted : (haltLine (countMismatch s)).route = s.route := haltLine_route _
    show (echoMismatched s).route = s.route
    unfold echoMismatched
    dsimp only
    split
    · split
      · exact halted
      · exact undelivered_route _ _
    · split
      · exact halted
      · rfl
    · split
      · exact halted
      · exact resumeCut_route _
    all_goals rfl

theorem handleNodeTransfer_route (tag car direction item : Byte) (value : Half) (s : State) :
    (handleNodeTransfer tag car direction item value s).route = s.route := by
  unfold handleNodeTransfer
  dsimp only
  split
  · rfl
  · split
    · rfl
    · split
      · rfl
      · split <;> rfl

/-! ### The requests of the other blocks -/

theorem handleCommission_route (tag : Byte) (s : State) : (handleCommission tag s).route = s.route := by
  unfold handleCommission
  split <;> rfl

theorem handleReturnToSetup_route (tag : Byte) (s : State) : (handleReturnToSetup tag s).route = s.route := by
  unfold handleReturnToSetup
  split <;> rfl

theorem handleEnableTilt_route (tag : Byte) (s : State) : (handleEnableTilt tag s).route = s.route := by
  unfold handleEnableTilt
  split
  · rfl
  · split <;> rfl

theorem handleResumeTilt_route (tag : Byte) (s : State) : (handleResumeTilt tag s).route = s.route := by
  unfold handleResumeTilt
  split <;> rfl

theorem handleSetFormation_route (tag count : Byte) (records : List CarWire) (s : State) :
    (handleSetFormation tag count records s).route = s.route := by
  unfold handleSetFormation
  split
  · rfl
  · split
    · rfl
    · rw [loadFormation_eq]
      rfl

theorem handleSetParameters_route (tag : Byte) (v : Vector Word 28) (s : State) :
    (handleSetParameters tag v s).route = s.route := by
  unfold handleSetParameters
  split
  · rfl
  · dsimp only
    split <;> rfl

end Sys2Proof.Machine

namespace Sys2Proof.Machine

open Sys2Proof

/-! ## Notices raised under a condition (R181) -/

/-- A notice after a raise that is made only where the condition holds. -/
def Notice.raiseIf (x : Notice) (c : Bool) (flag : Half) : Notice :=
  if c then { pending := true, flags := x.flags ||| flag } else x

theorem Notice.raiseIf_pending (x : Notice) (c : Bool) (flag : Half) :
    (x.raiseIf c flag).pending = (x.pending || c) := by cases c <;> simp [Notice.raiseIf]

theorem Notice.raiseIf_flags (x : Notice) (c : Bool) (flag : Half) :
    (x.raiseIf c flag).flags = x.flags ||| if c then flag else 0#16 := by cases c <;> simp [Notice.raiseIf]

/-- A flag raised under two conditions, one after the other, is raised under either. -/
theorem Notice.raiseIf_twice (x : Notice) (c d : Bool) (flag : Half) :
    (x.raiseIf c flag).raiseIf d flag = x.raiseIf (c || d) flag := by
  cases c <;> cases d <;> simp [Notice.raiseIf, BitVec.or_assoc]

/-- A raise of POSITION touches the POSITION notice alone. -/
theorem State.raiseIf_position (s : State) (c : Bool) (flag : Half) :
    s.raiseIf c .position flag = s.setLink { s.link with notices := { s.link.notices with
      position := s.link.notices.position.raiseIf c flag } } := by cases c <;> rfl

/-! ## The look-ahead, trust and the expiry of captures (R48, R53, R81) -/

@[simp] theorem evaluateLookAhead_odo (s : State) : (evaluateLookAhead s).odo = s.odo := by
  rcases evaluateLookAhead_cases s with h | ⟨-, -, h⟩ | ⟨-, -, h⟩ <;> rw [h] <;> rfl

@[simp] theorem evaluateLookAhead_ring (s : State) : (evaluateLookAhead s).ring = s.ring := by
  rcases evaluateLookAhead_cases s with h | ⟨-, -, h⟩ | ⟨-, -, h⟩ <;> rw [h] <;> rfl

/-- An evaluation of the look-ahead raises at most GEOMETRY. -/
theorem evaluateLookAhead_link (s : State) :
    (evaluateLookAhead s).link = { s.link with notices := { s.link.notices with
      geometry := (evaluateLookAhead s).link.notices.geometry } } := by
  rcases evaluateLookAhead_cases s with h | ⟨-, -, h⟩ | ⟨-, -, h⟩ <;> rw [h] <;> rfl

theorem lookAhead_eq (s : State) :
    lookAhead s = (s.geo.committed.getLast?.map (fun g => g.start + g.length - s.odo.pos)).getD 0 := by
  unfold lookAhead GeoStore.committedEnd
  cases s.geo.committed.getLast? <;> rfl

/-- What an evaluation leaves is what R81 asks: read in a state t that holds its results, from a state s that had the
flag, the parameters and the notice with which it began. -/
theorem lookAheadEvaluated_of {s t u : State} (armed : u.geo.armed = s.geo.armed) (params : u.params = s.params)
    (notice : u.link.notices.geometry = s.link.notices.geometry) (pos : t.odo.pos = u.odo.pos)
    (geo : t.geo = (evaluateLookAhead u).geo)
    (raised : t.link.notices.geometry = (evaluateLookAhead u).link.notices.geometry) : LookAheadEvaluated s t := by
  intro L hL
  have ahead : L = lookAhead u := by
    rw [hL, lookAhead_eq, geo, evaluateLookAhead_geo, pos]
  rw [geo, raised, ← armed, ← params, ← notice, ahead]
  unfold evaluateLookAhead
  refine ⟨fun ha low => ?_, fun ha high => ?_, fun ha high => ?_, fun ha low => ?_⟩
  · rw [if_pos ha, if_pos low]
    exact ⟨rfl, rfl⟩
  · rw [if_pos ha, if_neg (by omega)]
    exact ⟨ha, rfl⟩
  · rw [if_neg (by simp [ha]), if_pos high]
    exact ⟨rfl, rfl⟩
  · rw [if_neg (by simp [ha]), if_neg (by omega)]
    exact ⟨ha, rfl⟩

/-- A re-evaluation of trust writes the flag, and raises POSITION where it changes (R48). -/
theorem evaluateTrust_eq (s : State) :
    evaluateTrust s = (s.setOdo { s.odo with trust := nextTrust s.params s.odo }).setLink
      { s.link with notices := { s.link.notices with
        position := s.link.notices.position.raiseIf (nextTrust s.params s.odo != s.odo.trust) flagTrustChanged } } :=
  State.raiseIf_position _ _ _

/-- The uncertainty in cm is within a bound exactly where u is (R46). -/
theorem uCm_le_iff (o : Odometer) (m : Nat) : o.uCm ≤ m ↔ o.u ≤ m * 10000 := by
  unfold Odometer.uCm; omega

/-- Trust follows uMax while it stands, and uResume once it is lost (R48). -/
theorem nextTrust_iff (p : Params) (o : Odometer) :
    nextTrust p o = true ↔
      (o.trust = true ∧ o.u ≤ p.uMax * 10000) ∨ (o.trust = false ∧ o.u ≤ p.uResume * 10000) := by
  unfold nextTrust
  cases o.trust <;> simp [uCm_le_iff]

/-- The expiry check keeps the captures that lie within captureExpiry behind P, and raises POSITION where one lies
beyond (R53). -/
theorem expireCaptures_eq (s : State) :
    expireCaptures s =
      (s.setOdo { s.odo with
        captures := s.odo.captures.filter
          (fun e => decide (s.odo.pos - e.position ≤ s.params.captureExpiry)) }).setLink
        { s.link with notices := { s.link.notices with
          position := s.link.notices.position.raiseIf
            (s.odo.captures.any fun e => decide ((s.params.captureExpiry : Int) < s.odo.pos - e.position))
            flagCaptureExpired } } := by
  have kept : (fun e => !isExpired s e) = fun e => decide (s.odo.pos - e.position ≤ s.params.captureExpiry) := by
    funext e
    rw [isExpired, ← decide_not, decide_eq_decide, not_lt]
  rw [expireCaptures, kept]
  exact State.raiseIf_position _ _ _

/-! ## The measurement of a slot (R38 to R42) -/

@[simp] theorem Odometer.tacho_setTacho (o : Odometer) (n : TachoName) (t : Tacho) : (o.setTacho n t).tacho n = t := by
  cases n <;> rfl

@[simp] theorem Odometer.tacho_setTacho_other (o : Odometer) (n : TachoName) (t : Tacho) :
    (o.setTacho n t).tacho (otherTacho n) = o.tacho (otherTacho n) := by
  cases n <;> rfl

/-- The failure test marks a channel that must fail, and raises POSITION (R40). -/
theorem failTacho_eq (n : TachoName) (s : State) :
    failTacho n s =
      (s.setOdo (s.odo.setTacho n { s.odo.tacho n with failed := (s.odo.tacho n).failed || mustFail s.odo n })).setLink
        { s.link with notices := { s.link.notices with
          position := s.link.notices.position.raiseIf (mustFail s.odo n) flagTachoFailed } } := by
  unfold failTacho
  cases h : mustFail s.odo n with
  | true => cases n <;> simp [Odometer.setTacho, Odometer.tacho] <;> rfl
  | false => cases n <;> simp [Odometer.setTacho, Odometer.tacho] <;> rfl

/-- A channel after the measurement and the failure test of a slot. -/
def slotTacho (s : State) (n : TachoName) : Tacho :=
  { s.odo.tacho n with
    failed := failedAfter s n, increment := 0, silent := silentAfter s n,
    window := (s.odo.tacho n).window.drop 1 ++ [rawDistance s n] }

/-- Both channels after the measurement and the failure tests of a slot. -/
def slotMeasured (s : State) : Odometer := { s.odo with tachoA := slotTacho s .a, tachoB := slotTacho s .b }

/-- A channel fails in the slot that was GOOD before it (R40). -/
def newlyFailed (s : State) (n : TachoName) : Bool := !(s.odo.tacho n).failed && failedAfter s n

/-- A measured channel shows the speed of its new window (R38, R39). -/
theorem measure_speed (s : State) (n : TachoName) :
    ((s.odo.tacho n).measure (rawDistance s n)).speed = speedAfter s n := by
  simp [Tacho.speed, Tacho.measure, windowSpeed, enterWindow, speedAfter]

/-- The failure test of a slot reads a channel's own state and count, and the other channel's speed (R40). -/
theorem mustFail_measured {s : State} {o : Odometer} {n : TachoName}
    (own : o.tacho n = (s.odo.tacho n).measure (rawDistance s n))
    (other : (o.tacho (otherTacho n)).speed = speedAfter s (otherTacho n)) : mustFail o n = newlyFailed s n := by
  have failed : (o.tacho n).failed = (s.odo.tacho n).failed := by rw [own]; rfl
  have silent : (o.tacho n).silent = silentAfter s n := by rw [own]; rfl
  rw [mustFail, newlyFailed, failedAfter, failed, silent, other]
  cases (s.odo.tacho n).failed <;> simp

/-- What the failure test leaves of a measured channel. -/
theorem measured_failed (s : State) (n : TachoName) :
    { (s.odo.tacho n).measure (rawDistance s n) with
      failed := ((s.odo.tacho n).measure (rawDistance s n)).failed || newlyFailed s n } = slotTacho s n := by
  have failed : ((s.odo.tacho n).failed || newlyFailed s n) = failedAfter s n := by
    unfold newlyFailed failedAfter
    cases (s.odo.tacho n).failed <;> simp
  unfold slotTacho
  rw [← failed]
  rfl

/-- The measurement of a slot and its two failure tests: both channels, and POSITION where one has failed (R39, R40). -/
theorem failTests_eq (s : State) :
    failTacho .b (failTacho .a (s.setOdo
      { s.odo with tachoA := s.odo.tachoA.measure (rawDistance s .a),
                   tachoB := s.odo.tachoB.measure (rawDistance s .b) }))
      = (s.setOdo (slotMeasured s)).setLink { s.link with notices := { s.link.notices with
          position := s.link.notices.position.raiseIf (newlyFailed s .a || newlyFailed s .b) flagTachoFailed } } := by
  have first : mustFail { s.odo with tachoA := s.odo.tachoA.measure (rawDistance s .a),
                                     tachoB := s.odo.tachoB.measure (rawDistance s .b) } .a = newlyFailed s .a :=
    mustFail_measured rfl (measure_speed s .b)
  have second : mustFail { s.odo with tachoA := slotTacho s .a,
                                      tachoB := s.odo.tachoB.measure (rawDistance s .b) } .b = newlyFailed s .b :=
    mustFail_measured rfl (measure_speed s .a)
  have tachoA := measured_failed s .a
  have tachoB := measured_failed s .b
  simp only [Odometer.tacho] at tachoA tachoB
  rw [failTacho_eq .a]
  simp only [State.setOdo_odo, State.setOdo_link, first, Odometer.tacho, Odometer.setTacho, tachoA]
  rw [failTacho_eq .b]
  simp only [State.setLink_odo, State.setOdo_odo, State.setLink_link, second, Odometer.tacho, Odometer.setTacho,
    tachoB, Notice.raiseIf_twice]
  rfl

/-! ## The choice of a slot (R41, R42, R44) -/

/-- The growth of u in a slot, absent where both channels are FAILED and u goes to its ceiling (R44). -/
def slotGrowth (s : State) : Option Nat :=
  if failedAfter s .a && failedAfter s .b then none
  else some (
    if failedAfter s .a || failedAfter s .b then (slotDistance s).natAbs * 2 * s.params.drift / 1000
    else (if slotAgrees s then 0 else (rawDistance s .a - rawDistance s .b).natAbs) +
      (slotDistance s).natAbs * s.params.drift / 1000)

/-- What R41 chooses at a slot. -/
def slotChoice (s : State) : SlotChoice :=
  { distance := slotDistance s, growth := slotGrowth s, slide := isSlide s }

theorem chooseSlot_measured (s : State) :
    chooseSlot (slotMeasured s) s.params (rawDistance s .a) (rawDistance s .b) = slotChoice s := by
  have agree : tachosAgree s.params (rawDistance s .a) (rawDistance s .b) = slotAgrees s := rfl
  have failedA : (slotMeasured s).tachoA.failed = failedAfter s .a := rfl
  have failedB : (slotMeasured s).tachoB.failed = failedAfter s .b := rfl
  unfold chooseSlot slotChoice
  rw [failedA, failedB, agree]
  cases ha : failedAfter s .a <;> cases hb : failedAfter s .b
  · cases hc : slotAgrees s <;> simp [slotDistance, slotGrowth, isSlide, slideDistance, ha, hb, hc]
  all_goals simp [slotDistance, slotGrowth, isSlide, ha, hb]

/-- The uncertainty that the growth of a slot leaves (R44). -/
theorem growU_slotGrowth {s : State} {o : Odometer} (u : o.u = s.odo.u) :
    (growU (slotGrowth s) o).u = slotUncertainty s := by
  unfold growU slotGrowth slotUncertainty
  split <;> simp_all [Config.uCeiling]

/-- The odometer of a slot once the slot distance has entered the speed window (R41, R45). -/
def slotOdo (s : State) : Odometer := enterSpeed (slotChoice s) (slotMeasured s)

theorem slotOdo_window (s : State) :
    (slotOdo s).window = if failedAfter s .a && failedAfter s .b then List.replicate 10 0
      else s.odo.window.drop 1 ++ [slotDistance s] := by
  unfold slotOdo enterSpeed slotChoice slotGrowth
  cases failedAfter s .a && failedAfter s .b <;> rfl

/-- The state of a slot before a run has its part of it: the measurement, the failure tests and the speed window. -/
def slotBase (s : State) : State :=
  (s.setOdo (slotOdo s)).setLink { s.link with notices := { s.link.notices with
    position := s.link.notices.position.raiseIf (newlyFailed s .a || newlyFailed s .b) flagTachoFailed } }

/-- What a slot does, in a run and without one (R41). -/
theorem takeSlot_eq (s : State) :
    takeSlot s = if s.ctl.run then slotInRun (slotChoice s) (slotBase s) else slotBase s := by
  have choice := chooseSlot_measured s
  have tests := failTests_eq s
  have a : s.odo.tachoA.increment * s.params.pulseDistance .a = rawDistance s .a := rfl
  have b : s.odo.tachoB.increment * s.params.pulseDistance .b = rawDistance s .b := rfl
  unfold takeSlot
  simp only [a, b, tests, State.setLink_odo, State.setOdo_odo, State.setLink_params, State.setOdo_params, choice]
  rfl

end Sys2Proof.Machine

namespace Sys2Proof.Machine

open Sys2Proof

/-! ## A slot of a run (R43, R44, R48, R53, R74, R90) -/

/-- An advance changes P and ρ alone (R43). -/
theorem advance_frame (d : Int) (o : Odometer) :
    advance d o = { o with pos := (advance d o).pos, rho := (advance d o).rho } := by
  unfold advance
  dsimp only
  split
  · rfl
  · split <;> rfl

/-- The three ends of an advance: at a bound of the range with ρ = 0, or where the sum lies (R43). -/
theorem advance_cases (d : Int) (o : Odometer) :
    (21474836480000 ≤ o.pos * 10000 + o.rho + d ∧ (advance d o).pos = 2147483647 ∧ (advance d o).rho = 0) ∨
    (o.pos * 10000 + o.rho + d < -21474836480000 ∧ (advance d o).pos = -2147483648 ∧ (advance d o).rho = 0) ∨
    (-21474836480000 ≤ o.pos * 10000 + o.rho + d ∧ o.pos * 10000 + o.rho + d < 21474836480000 ∧
      (advance d o).pos = (o.pos * 10000 + o.rho + d) / 10000 ∧
      (advance d o).rho = o.pos * 10000 + o.rho + d - (o.pos * 10000 + o.rho + d) / 10000 * 10000) := by
  by_cases high : Config.posMax < (o.pos * 10000 + o.rho + d) / 10000
  · have held : advance d o = { o with pos := Config.posMax, rho := 0 } := if_pos high
    rw [held]
    exact .inl ⟨by simp only [Config.posMax] at high; omega, rfl, rfl⟩
  · by_cases low : (o.pos * 10000 + o.rho + d) / 10000 < Config.posMin
    · have held : advance d o = { o with pos := Config.posMin, rho := 0 } := (if_neg high).trans (if_pos low)
      rw [held]
      exact .inr (.inl ⟨by simp only [Config.posMin] at low; omega, rfl, rfl⟩)
    · have moved : advance d o = { o with
          pos := (o.pos * 10000 + o.rho + d) / 10000
          rho := o.pos * 10000 + o.rho + d - (o.pos * 10000 + o.rho + d) / 10000 * 10000 } :=
        (if_neg high).trans (if_neg low)
      simp only [Config.posMax, Config.posMin] at high low
      rw [moved]
      exact .inr (.inr ⟨by omega, by omega, rfl, rfl⟩)

theorem advance_pos_mem (d : Int) (o : Odometer) :
    Config.posMin ≤ (advance d o).pos ∧ (advance d o).pos ≤ Config.posMax := by
  simp only [Config.posMin, Config.posMax]
  rcases advance_cases d o with ⟨-, h, -⟩ | ⟨-, h, -⟩ | ⟨low, high, h, -⟩ <;> rw [h] <;> omega

@[simp] theorem releaseSegments_odo (s : State) : (releaseSegments s).odo = s.odo := evaluateLookAhead_odo _
@[simp] theorem releaseSegments_ring (s : State) : (releaseSegments s).ring = s.ring := evaluateLookAhead_ring _

/-- The last car of the formation is read off the formation alone. -/
theorem tailOffset_congr {s t : State} (h : t.cars = s.cars) : tailOffset t = tailOffset s := by
  rw [tailOffset, tailOffset, h]

/-- The odometer of a run's slot with its position and its uncertainty moved (R43, R44). -/
def movedOdo (c : SlotChoice) (s : State) : Odometer := growU c.growth (advance c.distance s.odo)

/-- The moved odometer keeps all but P, ρ and u. -/
theorem movedOdo_frame (c : SlotChoice) (s : State) :
    movedOdo c s =
      { s.odo with pos := (movedOdo c s).pos, rho := (movedOdo c s).rho, u := (movedOdo c s).u } := by
  unfold movedOdo growU
  rw [advance_frame]

/-- The odometer of a run's slot with trust re-evaluated and the captures expired (R48, R53). -/
def runOdo (c : SlotChoice) (s : State) : Odometer :=
  { movedOdo c s with
    trust := nextTrust s.params (movedOdo c s)
    captures := (movedOdo c s).captures.filter
      (fun e => decide ((movedOdo c s).pos - e.position ≤ s.params.captureExpiry)) }

/-- The POSITION notice of a run's slot: a slide, trust changed, a capture expired (R42, R48, R53). -/
def runNotice (c : SlotChoice) (s : State) : Notice :=
  ((s.link.notices.position.raiseIf c.slide flagSlide).raiseIf
    (nextTrust s.params (movedOdo c s) != (movedOdo c s).trust) flagTrustChanged).raiseIf
    ((movedOdo c s).captures.any fun e =>
      decide ((s.params.captureExpiry : Int) < (movedOdo c s).pos - e.position)) flagCaptureExpired

/-- A run's slot up to the expiry of captures: the odometer and the POSITION notice. -/
def runOdometry (c : SlotChoice) (s : State) : State :=
  (s.setOdo (runOdo c s)).setLink { s.link with notices := { s.link.notices with position := runNotice c s } }

/-- What a run's slot does, once its distance is chosen: the odometer, then the release and the trim behind it. -/
theorem slotInRun_eq (c : SlotChoice) (s : State) :
    slotInRun c s = trimRing (releaseSegments (runOdometry c s)) := by
  unfold slotInRun
  dsimp only
  rw [State.raiseIf_position, evaluateTrust_eq, expireCaptures_eq]
  refine congrArg (fun u => trimRing (releaseSegments u)) ?_
  simp only [State.setLink_odo, State.setOdo_odo, State.setLink_params, State.setOdo_params, State.setLink_link,
    State.setOdo_link]
  rfl

theorem slotInRun_odo (c : SlotChoice) (s : State) : (slotInRun c s).odo = runOdo c s := by
  rw [slotInRun_eq]
  exact releaseSegments_odo _

/-- The trim behind the tail (R90). -/
theorem slotInRun_ring (c : SlotChoice) (s : State) :
    (slotInRun c s).ring = s.ring.dropWhile
      (fun x => decide (x.position < (slotInRun c s).odo.pos - tailOffset s - s.params.reactiveWindow)) := by
  have ring : (releaseSegments (runOdometry c s)).ring = s.ring := releaseSegments_ring _
  have cars : (releaseSegments (runOdometry c s)).cars = s.cars := State.train_cars (releaseSegments_train _)
  have params : (releaseSegments (runOdometry c s)).params = s.params := State.train_params (releaseSegments_train _)
  rw [slotInRun_eq, trimRing, State.setRing_ring, ring, tailOffset_congr cars, params]
  rfl

/-- The release behind the tail (R74). -/
theorem slotInRun_geo (c : SlotChoice) (s : State) :
    (slotInRun c s).geo = { s.geo with
      committed := s.geo.committed.dropWhile
        (fun g => decide (g.stop ≤ (slotInRun c s).odo.pos - tailOffset s - s.params.releaseMargin))
      armed := (slotInRun c s).geo.armed } := by
  rw [slotInRun_odo, slotInRun_eq]
  exact evaluateLookAhead_geo _

/-- A run's slot raises at most POSITION and GEOMETRY. -/
theorem slotInRun_link (c : SlotChoice) (s : State) :
    (slotInRun c s).link = { s.link with notices := { s.link.notices with
      position := runNotice c s, geometry := (slotInRun c s).link.notices.geometry } } := by
  rw [slotInRun_eq]
  exact evaluateLookAhead_link _

/-- A run's slot evaluates the look-ahead behind the release (R74, R81). -/
theorem slotInRun_lookAhead {s u : State} (c : SlotChoice) (armed : u.geo.armed = s.geo.armed)
    (params : u.params = s.params) (notice : u.link.notices.geometry = s.link.notices.geometry) :
    LookAheadEvaluated s (slotInRun c u) := by
  rw [slotInRun_eq]
  refine lookAheadEvaluated_of
    (u := (runOdometry c u).setGeo { u.geo with
      committed := u.geo.committed.dropWhile
        (fun g => decide (g.stop ≤ (runOdo c u).pos - tailOffset u - u.params.releaseMargin)) })
    armed params notice ?_ rfl rfl
  exact congrArg Odometer.pos (releaseSegments_odo _)

end Sys2Proof.Machine

namespace Sys2Proof.Machine

open Sys2Proof

/-! ## Captures and fixes (R49 to R52, R54 to R56) -/

/-- The odometer with P and v captured under number n, the oldest of eight captures dropped (R50, R51). -/
def Odometer.withCapture (n : Nat) (o : Odometer) : Odometer :=
  { o with
    captures := (if Config.captureCapacity ≤ o.captures.length then o.captures.drop 1 else o.captures) ++
      [{ number := n, position := o.pos, speed := o.v }]
    nextNumber := if n < Config.captureLast then some (n + 1) else none }

/-- A capture writes the odometer and raises POSITION, with a flag of its own where one is dropped (R50, R51). -/
theorem appendCapture_eq (n : Nat) (s : State) :
    appendCapture n s = (s.setOdo (s.odo.withCapture n)).setLink { s.link with
      notices := { s.link.notices with
        position := (s.link.notices.position.raiseIf (decide (Config.captureCapacity ≤ s.odo.captures.length))
          flagCaptureDropped).raiseIf true flagCaptured } } := by
  have full : (if decide (Config.captureCapacity ≤ s.odo.captures.length) = true then s.odo.captures.drop 1
      else s.odo.captures) =
      if Config.captureCapacity ≤ s.odo.captures.length then s.odo.captures.drop 1 else s.odo.captures := by simp
  unfold appendCapture
  dsimp only
  rw [full, ← State.raiseIf_true, State.raiseIf_position, State.raiseIf_position]
  rfl

/-- Everything an accepted rising edge can do: nothing without a run, a capture, or a refusal (R50, R52). -/
theorem captureEdge_cases (s : State) :
    (s.ctl.run = false ∧ captureEdge s = s) ∨
    (s.ctl.run = true ∧ s.odo.nextNumber = none ∧ captureEdge s = s.raise .position flagCaptureRefused) ∨
    (∃ n, s.ctl.run = true ∧ s.odo.nextNumber = some n ∧ captureEdge s = appendCapture n s) := by
  unfold captureEdge
  cases run : s.ctl.run with
  | false => exact .inl ⟨rfl, rfl⟩
  | true =>
    cases next : s.odo.nextNumber with
    | none => exact .inr (.inl ⟨rfl, rfl, rfl⟩)
    | some n => exact .inr (.inr ⟨n, rfl, rfl, rfl⟩)

/-- P goes to the sum held at the ends of the range, and ρ is kept where the sum lies within it (R55). -/
theorem correctPosition_eq (d : Int) (o : Odometer) :
    correctPosition d o = { o with
      pos := saturatePos (o.pos + d)
      rho := if saturatePos (o.pos + d) = o.pos + d then o.rho else 0 } := by
  unfold correctPosition saturatePos clamp
  dsimp only
  split
  · next low => rw [if_neg (by omega)]
  · split
    · next high => rw [if_neg (by omega)]
    · simp

/-- The odometer after a fix of capture n by δ, before trust is re-evaluated (R55). -/
def fixedOdo (n : Nat) (d : Int) (s : State) : Odometer :=
  { correctPosition d s.odo with
    captures := correctCaptures n d (correctPosition d s.odo).captures
    u := s.params.fixAccuracy * 10000 }

theorem fixedOdo_eq (n : Nat) (d : Int) (s : State) :
    fixedOdo n d s = { s.odo with
      pos := saturatePos (s.odo.pos + d)
      rho := if saturatePos (s.odo.pos + d) = s.odo.pos + d then s.odo.rho else 0
      u := s.params.fixAccuracy * 10000
      captures := correctCaptures n d s.odo.captures } := by
  rw [fixedOdo, correctPosition_eq]

/-- A fix up to the look-ahead: the odometer, the ring and the POSITION notice (R48, R55, R56, R91). -/
def fixBase (n : Nat) (d : Int) (s : State) : State :=
  ((s.setOdo { fixedOdo n d s with trust := nextTrust s.params (fixedOdo n d s) }).setRing (shiftRing d s.ring)).setLink
    { s.link with notices := { s.link.notices with
      position := (s.link.notices.position.raiseIf (largeCorrection d s) flagLargeCorrection).raiseIf
        (nextTrust s.params (fixedOdo n d s) != (fixedOdo n d s).trust) flagTrustChanged } }

theorem applyFix_eq (n : Nat) (d : Int) (s : State) : applyFix n d s = evaluateLookAhead (fixBase n d s) := by
  unfold applyFix
  dsimp only
  rw [State.raiseIf_position, evaluateTrust_eq]
  refine congrArg evaluateLookAhead ?_
  simp only [State.setRing_odo, State.setOdo_odo, State.setLink_odo, State.setRing_params, State.setOdo_params,
    State.setLink_params]
  rfl

theorem applyFix_odo (n : Nat) (d : Int) (s : State) :
    (applyFix n d s).odo = { fixedOdo n d s with trust := nextTrust s.params (fixedOdo n d s) } := by
  rw [applyFix_eq]
  exact evaluateLookAhead_odo _

theorem applyFix_ring (n : Nat) (d : Int) (s : State) : (applyFix n d s).ring = shiftRing d s.ring := by
  rw [applyFix_eq]
  exact evaluateLookAhead_ring _

/-! ## The moves of the odometer and the ring -/

/-- What a part of a command that finds the state s makes of the odometer and of the history ring. -/
inductive RouteMove (s : State) (odo : Odometer) (ring : List Sample) : Prop where
  /-- Neither changes. -/
  | beside (odo_eq : odo = s.odo) (ring_eq : ring = s.ring)
  /-- A STAT of the sensing car gives a sample at the car's front (R88, R89). -/
  | sample (f : Nat) (a : Int) (low : Config.posMin ≤ s.odo.pos - f) (odo_eq : odo = s.odo)
      (ring_eq : ring =
        insertSample { position := s.odo.pos - f, accel := clampAbs a Config.measuredLimit } s.ring)
  /-- A pulse decoder acts (R37). -/
  | decode (n : TachoName) (levels : Pair) (odo_eq : odo = s.odo.setTacho n ((s.odo.tacho n).decode levels))
      (ring_eq : ring = s.ring)
  /-- The failure test of a channel is made (R40). -/
  | failTest (n : TachoName) (failed : Bool) (odo_eq : odo = s.odo.setTacho n { s.odo.tacho n with failed := failed })
      (ring_eq : ring = s.ring)
  /-- A slot outside a run (R39 to R42, R45). -/
  | slot (odo_eq : odo = slotOdo s) (ring_eq : ring = s.ring)
  /-- A slot of a run (R43, R44, R48, R53, R90). -/
  | runSlot (odo_eq : odo = runOdo (slotChoice s) (slotBase s)) (trimmed : ring.Sublist s.ring)
  /-- The marker filter counts or takes a level (R49). -/
  | marker (level : Bool) (count : Nat) (h : s.odo.markerCount ≤ 2 → count ≤ 2)
      (odo_eq : odo = { s.odo with marker := level, markerCount := count }) (ring_eq : ring = s.ring)
  /-- An accepted rising edge makes a capture (R50, R51). -/
  | capture (n : Nat) (next : s.odo.nextNumber = some n)
      (odo_eq : odo = Odometer.withCapture n { s.odo with marker := true, markerCount := 0 }) (ring_eq : ring = s.ring)
  /-- A run starts (R59, R95). -/
  | startRun (origin : Int) (h : inRoute origin = true) (odo_eq : odo = s.odo.startRun origin s.params.fixAccuracy)
      (ring_eq : ring = [])
  /-- A run ends (R60, R96). -/
  | endRun (odo_eq : odo = { s.odo with captures := [] }) (ring_eq : ring = [])
  /-- A fix (R55, R91). -/
  | fix (n : Nat) (d : Int)
      (odo_eq : odo = { fixedOdo n d s with trust := nextTrust s.params (fixedOdo n d s) })
      (ring_eq : ring = shiftRing d s.ring)

namespace RouteMove

theorem of_route {s t : State} (h : t.route = s.route) : RouteMove s t.odo t.ring := by
  simp only [State.route, Prod.mk.injEq] at h
  obtain ⟨odo, -, ring⟩ := h
  exact beside odo ring

theorem failTacho (n : TachoName) (s : State) : RouteMove s (failTacho n s).odo (failTacho n s).ring := by
  rw [failTacho_eq]
  exact failTest n _ rfl rfl

theorem takeSlot (s : State) : RouteMove s (takeSlot s).odo (takeSlot s).ring := by
  rw [takeSlot_eq]
  split
  · refine runSlot (slotInRun_odo _ _) ?_
    rw [slotInRun_ring]
    exact List.dropWhile_sublist _
  · exact slot rfl rfl

theorem acceptHigh (s : State) : RouteMove s (acceptHigh s).odo (acceptHigh s).ring := by
  rcases captureEdge_cases (s.setOdo { s.odo with marker := true, markerCount := 0 }) with
    ⟨-, e⟩ | ⟨-, -, e⟩ | ⟨n, -, next, e⟩ <;> rw [Machine.acceptHigh, e]
  · exact marker true 0 (fun _ => Nat.zero_le 2) rfl rfl
  · exact marker true 0 (fun _ => Nat.zero_le 2) rfl rfl
  · rw [appendCapture_eq]
    exact capture n next rfl rfl

theorem sampleMarker (high : Bool) (s : State) : RouteMove s (sampleMarker high s).odo (sampleMarker high s).ring := by
  unfold Machine.sampleMarker
  split
  · exact marker s.odo.marker 0 (fun _ => Nat.zero_le 2) rfl rfl
  · split
    · exact marker s.odo.marker (s.odo.markerCount + 1) (fun _ => by omega) rfl rfl
    · split
      · exact acceptHigh s
      · exact marker false 0 (fun _ => Nat.zero_le 2) rfl rfl

theorem markerRises (s : State) : RouteMove s (markerRises s).odo (markerRises s).ring := by
  unfold Machine.markerRises
  split
  · exact beside rfl rfl
  · exact acceptHigh s

theorem handleStartRun (tag : Byte) (origin : Word) (s : State) :
    RouteMove s (handleStartRun tag origin s).odo (handleStartRun tag origin s).ring := by
  unfold Machine.handleStartRun
  split
  · next inside => exact startRun origin.toInt inside rfl rfl
  · exact beside rfl rfl

theorem handleResolveCapture (tag : Byte) (number : Half) (x : Word) (s : State) :
    RouteMove s (handleResolveCapture tag number x s).odo (handleResolveCapture tag number x s).ring := by
  unfold Machine.handleResolveCapture
  dsimp only
  split
  · exact beside rfl rfl
  · split
    · exact fix _ _ (applyFix_odo _ _ _) (applyFix_ring _ _ _)
    · split
      · split <;> exact beside rfl rfl
      · exact beside rfl rfl

/-! ### The geometry store -/

theorem handleOpenBatch (tag : Byte) (declared : Word) (s : State) :
    RouteMove s (handleOpenBatch tag declared s).odo (handleOpenBatch tag declared s).ring := by
  unfold Machine.handleOpenBatch
  split <;> exact beside rfl rfl

theorem handleAddSegments (tag count : Byte) (records : List SegmentWire) (s : State) :
    RouteMove s (handleAddSegments tag count records s).odo (handleAddSegments tag count records s).ring := by
  unfold Machine.handleAddSegments
  split
  · exact beside rfl rfl
  · split
    · exact beside rfl rfl
    · split
      · exact beside rfl rfl
      · split <;> exact beside rfl rfl

theorem handleCloseBatch (tag count : Byte) (s : State) :
    RouteMove s (handleCloseBatch tag count s).odo (handleCloseBatch tag count s).ring := by
  unfold Machine.handleCloseBatch
  split
  · exact beside rfl rfl
  · split
    · exact beside rfl rfl
    · exact beside (evaluateLookAhead_odo _) (evaluateLookAhead_ring _)

theorem handleTruncate (tag : Byte) (x : Word) (s : State) :
    RouteMove s (handleTruncate tag x s).odo (handleTruncate tag x s).ring := by
  unfold Machine.handleTruncate
  dsimp only
  split
  · exact beside rfl rfl
  · split
    · exact beside rfl rfl
    · split
      · exact beside rfl rfl
      · exact beside (evaluateLookAhead_odo _) (evaluateLookAhead_ring _)

/-! ### The samples -/

theorem takeSample (accel : Option Int) {s u : State} (same : u.route = s.route) :
    RouteMove s (takeSample accel u).odo (takeSample accel u).ring := by
  simp only [State.route, Prod.mk.injEq] at same
  obtain ⟨odo, -, ring⟩ := same
  unfold Machine.takeSample
  split
  · next a f _ =>
    dsimp only
    split
    · next inside =>
      rw [odo] at inside
      exact sample f a inside.2 odo (by rw [State.setRing_ring, odo, ring])
    · exact beside odo ring
  · exact beside odo ring

theorem goodStat (a : Nat) (angle : Int) (cond : NodeCond) (flags : NodeFlags) (accel : Option Int) (s : State) :
    RouteMove s (goodStat a angle cond flags accel s).odo (goodStat a angle cond flags accel s).ring := by
  unfold Machine.goodStat
  split
  · dsimp only
    split
    · exact takeSample accel (takeStat_route _ _ _ _ _)
    · exact of_route (takeStat_route _ _ _ _ _)
  · exact beside rfl rfl

/-- A move, and then a change beside the odometer and the ring. -/
theorem andBeside {s t u : State} (move : RouteMove s t.odo t.ring) (same : u.route = t.route) :
    RouteMove s u.odo u.ring := by
  simp only [State.route, Prod.mk.injEq] at same
  obtain ⟨odo, -, ring⟩ := same
  rwa [odo, ring]

theorem hearStat (address : Nat) (angle : Int) (cond : NodeCond) (flags : NodeFlags) (accel : Option Int)
    (s : State) :
    RouteMove s (hearStat address angle cond flags accel s).odo (hearStat address angle cond flags accel s).ring := by
  unfold Machine.hearStat
  split
  · exact (goodStat _ _ _ _ _ _).andBeside (askAfter_route _ _)
  · exact of_route (noReply_route s)

end RouteMove

/-- An owner answers its request by one move of the odometer and the ring. -/
theorem serve_routeMove (tag : Byte) (r : Request) (s : State) :
    RouteMove s (serve tag r s).odo (serve tag r s).ring := by
  cases r with
  | identify => exact .of_route rfl
  | queryStatus => exact .of_route rfl
  | commission => exact .of_route (handleCommission_route _ _)
  | returnToSetup => exact .of_route (handleReturnToSetup_route _ _)
  | startRun origin => exact .handleStartRun _ _ _
  | endRun => exact .endRun rfl rfl
  | enableTilt => exact .of_route (handleEnableTilt_route _ _)
  | disableTilt => exact .of_route rfl
  | resumeTilt => exact .of_route (handleResumeTilt_route _ _)
  | reset => exact .of_route rfl
  | setParameters values => exact .of_route (handleSetParameters_route _ _ _)
  | getParameters => exact .of_route rfl
  | setFormation count r1 r2 r3 records => exact .of_route (handleSetFormation_route _ _ _ _)
  | getFormation => exact .of_route rfl
  | resolveCapture number r2 r3 x => exact .handleResolveCapture _ _ _ _
  | queryPosition => exact .of_route rfl
  | openBatch declared => exact .handleOpenBatch _ _ _
  | addSegments count r1 r2 r3 records => exact .handleAddSegments _ _ _ _
  | closeBatch count => exact .handleCloseBatch _ _ _
  | truncateGeometry x => exact .handleTruncate _ _ _
  | queryGeometry => exact .of_route rfl
  | queryCar car => exact .of_route (handleQueryCar_route _ _ _)
  | clearCarFault car => exact .of_route (handleClearCarFault_route _ _ _)
  | rollCall => exact .of_route (handleRollCall_route _ _)
  | nodeTransfer car direction item r3 value => exact .of_route (handleNodeTransfer_route _ _ _ _ _ _)
  | readAlerts => exact .of_route rfl
  | setReporting period => exact .of_route rfl

/-- An event acts by one move of the odometer and the ring. -/
theorem event_routeMove {c : Instr} {f : State → State} (h : eventOf c = some f) (s : State) :
    RouteMove s (f s).odo (f s).ring := by
  cases c <;> simp only [eventOf, Option.some.injEq, reduceCtorEq] at h <;> subst h
  case inhibitSample asserted => exact .of_route (sampleInhibit_route _ _)
  case inhibitAsserted => exact .of_route (inhibitAsserted_route _)
  case inhibitReleased => exact .of_route (inhibitReleased_route _)
  case markerSample high => exact .sampleMarker _ _
  case markerRisingEdge => exact .markerRises _
  case pulseDecode channel levels => exact .decode channel levels rfl rfl
  case odometrySlot => exact .takeSlot _
  case tachoFailed channel => exact .failTacho _ _
  case plannerComputation => exact .of_route (computePlan_route _)
  case telemetryCountdown => exact .of_route (hearReport_route _)
  case targetListArrival => exact .of_route (takeTargets_route _)
  case lineCycle => exact .of_route (startCycle_route _)
  case frameEcho isMatch => exact .of_route (hearEcho_route _ _)
  case lineHalt => exact .of_route (haltCarrying_route _)
  case stat => exact .hearStat _ _ _ _ _ _
  case tracking car => exact .of_route (testTracking_route _ _)
  case replySilence => exact .of_route (noReply_route _)
  case nodeLost car => exact .of_route (hearNodeLost_route _ _)
  case mrsp => exact .of_route (hearMrsp_route _ _ _ _)
  case claimRound outcome => exact .of_route (hearRound_route _ _)
  case musterEnd => exact .of_route (hearMusterEnd_route _)
  case contentionKey key => exact .of_route (hearKey_route _ _)
  case alrt => exact .of_route (hearAlrt_route _ _ _ _)

end Sys2Proof.Machine

namespace Sys2Proof.Machine

open Sys2Proof

/-! ## The odometer within its ranges (R37 to R39, R43 to R45, R49) -/

/-- The law of the odometer, read off the odometer itself. -/
structure Odometer.Sound (o : Odometer) : Prop where
  pos    : Config.posMin ≤ o.pos ∧ o.pos ≤ Config.posMax
  rho    : 0 ≤ o.rho ∧ o.rho < 10000
  u      : o.u ≤ Config.uCeiling
  window : o.window.length = Config.windowLength
  count  : o.markerCount ≤ 2
  tacho  : ∀ n, (o.tacho n).Sound

theorem odometerLaw_iff (s : State) : OdometerLaw s ↔ s.odo.Sound := by
  constructor
  · rintro ⟨low, high, rhoLow, rhoHigh, u, window, count, a, b⟩
    exact ⟨⟨low, high⟩, ⟨rhoLow, rhoHigh⟩, u, window, count, fun n => by cases n; exacts [a, b]⟩
  · rintro ⟨⟨low, high⟩, ⟨rhoLow, rhoHigh⟩, u, window, count, tacho⟩
    exact ⟨low, high, rhoLow, rhoHigh, u, window, count, tacho .a, tacho .b⟩

/-- A window of ten keeps its length where its oldest entry goes and a new one comes (R39, R45). -/
theorem enterWindow_length {w : List Int} (d : Int) (h : w.length = Config.windowLength) :
    (enterWindow d w).length = Config.windowLength := by
  simp only [Config.windowLength] at *
  simp [enterWindow, h]

theorem Tacho.Sound.decode {t : Tacho} (h : t.Sound) (levels : Pair) : (t.decode levels).Sound := by
  obtain ⟨quarters, silent, window⟩ := h
  rcases t.decode_cases levels quarters with ⟨-, -, e⟩ | ⟨-, -, e⟩ | ⟨within, e⟩ <;> rw [e]
  · exact ⟨Nat.zero_le 3, silent, window⟩
  · exact ⟨Nat.zero_le 3, silent, window⟩
  · exact ⟨within, silent, window⟩

theorem silentAfter_le {s : State} {n : TachoName} (h : (s.odo.tacho n).Sound) :
    silentAfter s n ≤ Config.silentLimit := by
  unfold silentAfter
  split
  · exact countUp_le h.2.1
  · exact Nat.zero_le _

theorem slotTacho_sound {s : State} {n : TachoName} (h : (s.odo.tacho n).Sound) : (slotTacho s n).Sound :=
  ⟨h.1, silentAfter_le h, enterWindow_length _ h.2.2⟩

namespace Odometer.Sound

theorem afterReset (a b : Pair) : (Odometer.afterReset a b).Sound where
  pos := show Config.posMin ≤ 0 ∧ 0 ≤ Config.posMax by decide
  rho := show (0 : Int) ≤ 0 ∧ (0 : Int) < 10000 by decide
  u := le_refl _
  window := rfl
  count := Nat.zero_le _
  tacho := fun n => by cases n <;> exact ⟨Nat.zero_le 3, Nat.zero_le _, rfl⟩

theorem setTacho {o : Odometer} (h : o.Sound) (n : TachoName) {t : Tacho} (ht : t.Sound) : (o.setTacho n t).Sound := by
  cases n with
  | a => exact ⟨h.pos, h.rho, h.u, h.window, h.count, fun m => by cases m; exacts [ht, h.tacho .b]⟩
  | b => exact ⟨h.pos, h.rho, h.u, h.window, h.count, fun m => by cases m; exacts [h.tacho .a, ht]⟩

theorem slotOdo {s : State} (h : s.odo.Sound) : (slotOdo s).Sound := by
  refine ⟨h.pos, h.rho, h.u, ?_, h.count, fun m => ?_⟩
  · rw [slotOdo_window]
    split
    · rfl
    · exact enterWindow_length _ h.window
  · cases m
    exacts [slotTacho_sound (h.tacho .a), slotTacho_sound (h.tacho .b)]

theorem movedOdo {s : State} (c : SlotChoice) (h : s.odo.Sound) : (movedOdo c s).Sound := by
  have u : (Machine.movedOdo c s).u ≤ Config.uCeiling := by
    show (growU c.growth _).u ≤ _
    unfold growU
    cases c.growth with
    | none => exact le_refl _
    | some g => exact min_le_left _ _
  rw [movedOdo_frame]
  exact ⟨advance_pos_mem _ _, advance_rho _ _, u, h.window, h.count, h.tacho⟩

/-- The law does not read trust and the captures. -/
theorem runOdo {s : State} (c : SlotChoice) (h : s.odo.Sound) : (runOdo c s).Sound := by
  have moved := movedOdo c h
  exact ⟨moved.pos, moved.rho, moved.u, moved.window, moved.count, moved.tacho⟩

theorem startRun {o : Odometer} (h : o.Sound) {origin : Int} (inside : inRoute origin = true) {accuracy : Nat}
    (fine : accuracy ≤ 1000) : (o.startRun origin accuracy).Sound := by
  obtain ⟨low, high⟩ := (inRoute_iff _).1 inside
  refine ⟨⟨?_, ?_⟩, ⟨le_refl _, show (0 : Int) < 10000 by decide⟩, ?_, h.window, h.count, fun n => ?_⟩
  · show Config.posMin ≤ origin
    simp only [Config.posMin]; omega
  · show origin ≤ Config.posMax
    simp only [Config.posMax]; omega
  · show accuracy * 10000 ≤ Config.uCeiling
    simp only [Config.uCeiling]; omega
  · obtain ⟨quartersA, -, windowA⟩ := h.tacho .a
    obtain ⟨quartersB, -, windowB⟩ := h.tacho .b
    cases n
    exacts [⟨quartersA, Nat.zero_le _, windowA⟩, ⟨quartersB, Nat.zero_le _, windowB⟩]

theorem fixedOdo {s : State} (h : s.odo.Sound) (fine : s.params.fixAccuracy ≤ 1000) (n : Nat) (d : Int) :
    (fixedOdo n d s).Sound := by
  rw [fixedOdo_eq]
  refine ⟨saturatePos_mem _, ?_, ?_, h.window, h.count, h.tacho⟩
  · dsimp only
    split
    · exact h.rho
    · decide
  · show s.params.fixAccuracy * 10000 ≤ Config.uCeiling
    simp only [Config.uCeiling]; omega

end Odometer.Sound

/-- The parameters within their ranges, field by field (R9). -/
theorem ParamsLaw.range {s : State} (h : ParamsLaw s) {k x : Nat} {r : Nat × Nat}
    (hx : (paramList s.params)[k]? = some x) (hr : paramRanges[k]? = some r) : r.1 ≤ x ∧ x ≤ r.2 :=
  firstOutside_eq_none.1 h.1 k x r hx hr

theorem ParamsLaw.fixAccuracy_le {s : State} (h : ParamsLaw s) : s.params.fixAccuracy ≤ 1000 :=
  (h.range (k := 10) rfl rfl).2

/-- Every move keeps the odometer within its ranges. -/
theorem RouteMove.keeps_odometer {s t : State} (move : RouteMove s t.odo t.ring) (params : ParamsLaw s)
    (law : OdometerLaw s) : OdometerLaw t := by
  rw [odometerLaw_iff] at *
  cases move with
  | beside odo => rwa [odo]
  | sample f a low odo => rwa [odo]
  | decode n levels odo => rw [odo]; exact law.setTacho n ((law.tacho n).decode levels)
  | failTest n failed odo => rw [odo]; exact law.setTacho n (law.tacho n)
  | slot odo => rw [odo]; exact law.slotOdo
  | runSlot odo => rw [odo]; exact Odometer.Sound.runOdo (s := slotBase s) _ law.slotOdo
  | marker level count h odo =>
    rw [odo]; exact ⟨law.pos, law.rho, law.u, law.window, h law.count, law.tacho⟩
  | capture n next odo =>
    rw [odo]; exact ⟨law.pos, law.rho, law.u, law.window, Nat.zero_le 2, law.tacho⟩
  | startRun origin inside odo => rw [odo]; exact law.startRun inside params.fixAccuracy_le
  | endRun odo => rw [odo]; exact ⟨law.pos, law.rho, law.u, law.window, law.count, law.tacho⟩
  | fix n d odo =>
    have fixed := law.fixedOdo params.fixAccuracy_le n d
    rw [odo]; exact ⟨fixed.pos, fixed.rho, fixed.u, fixed.window, fixed.count, fixed.tacho⟩

/-! ## The history ring in route order (R87 to R91) -/

/-- The law of the ring, read off the ring itself. -/
structure RingSound (l : List Sample) : Prop where
  length : l.length ≤ Config.ringCapacity
  order  : l.Pairwise (fun x y => x.position < y.position)
  range  : ∀ x ∈ l, Config.posMin ≤ x.position ∧ x.position ≤ Config.posMax ∧
    -Config.measuredLimit ≤ x.accel ∧ x.accel ≤ Config.measuredLimit

theorem ringLaw_iff (s : State) : RingLaw s ↔ RingSound s.ring :=
  ⟨fun ⟨length, order, range⟩ => ⟨length, order, range⟩, fun ⟨length, order, range⟩ => ⟨length, order, range⟩⟩

namespace RingSound

theorem nil : RingSound [] := ⟨Nat.zero_le _, .nil, nofun⟩

theorem sublist {k l : List Sample} (h : RingSound l) (sub : k.Sublist l) : RingSound k :=
  ⟨sub.length_le.trans h.length, h.order.sublist sub, fun x hx => h.range x (sub.subset hx)⟩

/-- A new sample joins behind the samples that lie before it, the oldest making room where there are 1,024 (R89). -/
theorem insert {l : List Sample} (h : RingSound l) {x : Sample}
    (inside : Config.posMin ≤ x.position ∧ x.position ≤ Config.posMax)
    (measured : -Config.measuredLimit ≤ x.accel ∧ x.accel ≤ Config.measuredLimit) : RingSound (insertSample x l) := by
  have filtered : (l.filter fun y => decide (y.position < x.position)).Sublist l := List.filter_sublist
  have behind : ∀ y ∈ l.filter (fun y => decide (y.position < x.position)), y.position < x.position :=
    fun y hy => of_decide_eq_true (List.mem_filter.1 hy).2
  unfold insertSample
  dsimp only
  generalize l.filter (fun y => decide (y.position < x.position)) = kept at filtered behind
  have joined {k : List Sample} (sub : k.Sublist kept) (room : k.length < Config.ringCapacity) :
      RingSound (k ++ [x]) := by
    have sound := h.sublist (sub.trans filtered)
    refine ⟨?_, List.pairwise_append.2 ⟨sound.order, List.pairwise_singleton _ _, fun y hy z hz => ?_⟩, fun y hy => ?_⟩
    · rw [List.length_append]; exact room
    · rw [List.mem_singleton.1 hz]
      exact behind y (sub.subset hy)
    · rcases List.mem_append.1 hy with hy | hy
      · exact sound.range y hy
      · rw [List.mem_singleton.1 hy]
        exact ⟨inside.1, inside.2, measured⟩
  split
  · next room => exact joined (.refl _) room
  · refine joined (List.drop_sublist 1 kept) ?_
    have most := (h.sublist filtered).length
    simp only [Config.ringCapacity] at *
    rw [List.length_drop]; omega

/-- A shift keeps the order, and what it carries out of the range goes (R91). -/
theorem shift {l : List Sample} (h : RingSound l) (d : Int) : RingSound (shiftRing d l) := by
  have order : (l.map fun x => { x with position := x.position + d }).Pairwise
      (fun x y => x.position < y.position) :=
    List.pairwise_map.2 (h.order.imp fun before => by dsimp only; omega)
  refine ⟨?_, order.filter _, fun x hx => ?_⟩
  · refine (List.length_filter_le _ _).trans ?_
    rw [List.length_map]
    exact h.length
  · obtain ⟨moved, kept⟩ := List.mem_filter.1 hx
    obtain ⟨y, hy, rfl⟩ := List.mem_map.1 moved
    obtain ⟨low, high⟩ := of_decide_eq_true kept
    exact ⟨low, high, (h.range y hy).2.2⟩

end RingSound

/-- Every move keeps the ring in order, where P lies within its range. -/
theorem RouteMove.keeps_ring {s t : State} (move : RouteMove s t.odo t.ring) (odometer : OdometerLaw s)
    (law : RingLaw s) : RingLaw t := by
  rw [ringLaw_iff] at *
  cases move with
  | beside _ ring => rwa [ring]
  | sample f a low _ ring =>
    have high : s.odo.pos ≤ Config.posMax := odometer.2.1
    rw [ring]
    exact law.insert ⟨low, by dsimp only; omega⟩ (clamp_mem (by decide))
  | decode _ _ _ ring => rwa [ring]
  | failTest _ _ _ ring => rwa [ring]
  | slot _ ring => rwa [ring]
  | runSlot _ trimmed => exact law.sublist trimmed
  | marker _ _ _ _ ring => rwa [ring]
  | capture _ _ _ ring => rwa [ring]
  | startRun _ _ _ ring => rw [ring]; exact .nil
  | endRun _ ring => rw [ring]; exact .nil
  | fix n d _ ring => rw [ring]; exact law.shift d

/-- Settles O14: each part of a command makes one move of the odometer and the ring, which keeps both laws under a
parameter set that each keeps valid. -/
theorem stepsKeepOdometerAndRingInRange : Obligations.StepsKeepOdometerAndRingInRange := by
  intro s t params odometer ring e
  have kept : ParamsLaw t ∧ OdometerLaw t ∧ RingLaw t :=
    KeptByParts.step (P := fun u => ParamsLaw u ∧ OdometerLaw u ∧ RingLaw u)
      { queue := fun _ _ h => h
        reset := fun _ _ _ _ =>
          ⟨paramsLaw_of_defaults rfl, (odometerLaw_iff _).2 (.afterReset _ _), (ringLaw_iff _).2 .nil⟩
        held := fun _ _ =>
          ⟨paramsLaw_of_defaults rfl, (odometerLaw_iff _).2 (.afterReset _ _), (ringLaw_iff _).2 .nil⟩
        link := fun _ _ h => h
        reported := fun _ h => h
        serve := fun tag r u length _ _ ⟨params, odometer, ring⟩ =>
          ⟨(serve_moves tag r u length).keeps (fun _ _ => TrainMove.keeps_params) params,
            (serve_routeMove tag r u).keeps_odometer params odometer,
            (serve_routeMove tag r u).keeps_ring odometer ring⟩
        event := fun _ _ u event ⟨params, odometer, ring⟩ =>
          ⟨(event_moves event u).keeps (fun _ _ => TrainMove.keeps_params) params,
            (event_routeMove event u).keeps_odometer params odometer,
            (event_routeMove event u).keeps_ring odometer ring⟩ }
      ⟨params, odometer, ring⟩ e
  exact kept.2

/-! ## The captures in number order (R50 to R52, R55) -/

/-- The numbers of the open captures under the next number: the law of the captures, read off these. -/
structure Numbered (numbers : List Nat) (next : Option Nat) : Prop where
  length : numbers.length ≤ Config.captureCapacity
  order  : numbers.Pairwise (· < ·)
  range  : ∀ n ∈ numbers, 1 ≤ n ∧ n ≤ Config.captureLast
  next   : ∀ m, next = some m → 1 ≤ m ∧ m ≤ Config.captureLast ∧ ∀ n ∈ numbers, n < m

theorem captureLaw_iff (s : State) : CaptureLaw s ↔ Numbered (s.odo.captures.map Capture.number) s.odo.nextNumber := by
  constructor
  · rintro ⟨length, order, range, next⟩
    exact ⟨by rwa [List.length_map], List.pairwise_map.2 order, by simpa using range, by simpa using next⟩
  · rintro ⟨length, order, range, next⟩
    exact ⟨by rwa [List.length_map] at length, List.pairwise_map.1 order, by simpa using range, by simpa using next⟩

namespace Numbered

theorem sublist {k l : List Nat} {next : Option Nat} (h : Numbered l next) (sub : k.Sublist l) : Numbered k next :=
  ⟨sub.length_le.trans h.length, h.order.sublist sub, fun n hn => h.range n (sub.subset hn),
    fun m hm => ⟨(h.next m hm).1, (h.next m hm).2.1, fun n hn => (h.next m hm).2.2 n (sub.subset hn)⟩⟩

theorem first : Numbered [] (some 1) :=
  ⟨Nat.zero_le _, .nil, nofun, fun m hm => by
    obtain rfl : 1 = m := Option.some.inj hm
    exact ⟨le_refl _, by decide, nofun⟩⟩

/-- The next number joins at the tail, where there is room (R50, R52). -/
theorem append {l : List Nat} {n : Nat} (h : Numbered l (some n)) (room : l.length < Config.captureCapacity) :
    Numbered (l ++ [n]) (if n < Config.captureLast then some (n + 1) else none) := by
  obtain ⟨low, high, above⟩ := h.next n rfl
  refine ⟨?_, List.pairwise_append.2 ⟨h.order, List.pairwise_singleton _ _, fun k hk m hm => ?_⟩, fun k hk => ?_,
    fun m hm => ?_⟩
  · rw [List.length_append]; exact room
  · rw [List.mem_singleton.1 hm]
    exact above k hk
  · rcases List.mem_append.1 hk with hk | hk
    · exact h.range k hk
    · rw [List.mem_singleton.1 hk]
      exact ⟨low, high⟩
  · split at hm
    · next last =>
      obtain rfl : n + 1 = m := Option.some.inj hm
      refine ⟨by omega, last, fun k hk => ?_⟩
      rcases List.mem_append.1 hk with hk | hk
      · have := above k hk; omega
      · rw [List.mem_singleton.1 hk]; omega
    · cases hm

end Numbered

/-- A capture keeps the numbers in order: the oldest of eight makes room (R51). -/
theorem numbered_withCapture {o : Odometer} {n : Nat} (next : o.nextNumber = some n)
    (h : Numbered (o.captures.map Capture.number) o.nextNumber) :
    Numbered ((o.withCapture n).captures.map Capture.number) (o.withCapture n).nextNumber := by
  rw [next] at h
  have most : o.captures.length ≤ Config.captureCapacity := by simpa using h.length
  unfold Odometer.withCapture
  dsimp only
  rw [List.map_append]
  refine Numbered.append (h.sublist ?_) ?_
  · split
    · exact (List.drop_sublist 1 _).map _
    · exact .refl _
  · rw [List.length_map]
    split
    · simp only [Config.captureCapacity] at *
      rw [List.length_drop]; omega
    · omega

/-- A fix keeps the numbers of the later captures (R55). -/
theorem correctCaptures_numbers (n : Nat) (d : Int) (l : List Capture) :
    ((correctCaptures n d l).map Capture.number).Sublist (l.map Capture.number) := by
  rw [correctCaptures, List.map_map]
  exact List.filter_sublist.map Capture.number

/-- A run's slot keeps captures, and the next number (R53). -/
theorem runOdo_captures (c : SlotChoice) (s : State) :
    (runOdo c s).captures = s.odo.captures.filter
      (fun e => decide ((runOdo c s).pos - e.position ≤ s.params.captureExpiry)) ∧
    (runOdo c s).nextNumber = s.odo.nextNumber := by
  unfold runOdo
  rw [movedOdo_frame]
  exact ⟨rfl, rfl⟩

/-- Every move keeps the captures in number order. -/
theorem RouteMove.keeps_captures {s t : State} (move : RouteMove s t.odo t.ring) (law : CaptureLaw s) :
    CaptureLaw t := by
  rw [captureLaw_iff] at *
  cases move with
  | beside odo => rwa [odo]
  | sample _ _ _ odo => rwa [odo]
  | decode n _ odo => rw [odo]; cases n <;> exact law
  | failTest n _ odo => rw [odo]; cases n <;> exact law
  | slot odo => rw [odo]; exact law
  | runSlot odo =>
    obtain ⟨captures, next⟩ := runOdo_captures (slotChoice s) (slotBase s)
    rw [odo, captures, next]
    exact law.sublist (List.filter_sublist.map _)
  | marker _ _ _ odo => rw [odo]; exact law
  | capture n next odo => rw [odo]; exact numbered_withCapture next law
  | startRun _ _ odo => rw [odo]; exact .first
  | endRun odo => rw [odo]; exact law.sublist (List.nil_sublist _)
  | fix n d odo =>
    rw [odo, fixedOdo_eq]
    exact law.sublist (correctCaptures_numbers n d _)

/-- Settles O15: each part of a command makes one move of the odometer, which keeps the captures in number order. -/
theorem stepsKeepCapturesNumbered : Obligations.StepsKeepCapturesNumbered := by
  intro s t law e
  exact KeptByParts.step (P := CaptureLaw)
    { queue := fun _ _ h => h
      reset := fun _ _ _ _ => (captureLaw_iff _).2 .first
      held := fun _ _ => (captureLaw_iff _).2 .first
      link := fun _ _ h => h
      reported := fun _ h => h
      serve := fun tag r u _ _ _ h => (serve_routeMove tag r u).keeps_captures h
      event := fun _ _ u event h => (event_routeMove event u).keeps_captures h } law e

end Sys2Proof.Machine

namespace Sys2Proof.Machine

open Sys2Proof

/-! ## The marker filter and the captures (R49 to R52) -/

/-- The third opposing sample and the accepted edge as a command act alike (R49, R50; log entry 4). -/
theorem edge_accepted {s : State} {c : Instr} (low : s.odo.marker = false)
    (h : c = .markerRisingEdge ∨ (c = .markerSample true ∧ s.odo.markerCount = 2)) :
    ∃ f, eventOf c = some f ∧ f s = acceptHigh s := by
  rcases h with rfl | ⟨rfl, count⟩
  · exact ⟨_, rfl, by simp [markerRises, low]⟩
  · exact ⟨_, rfl, by simp [sampleMarker, low, count]⟩

/-- A capture while there is room for it (R50). -/
theorem appendCapture_room (n : Nat) {s : State} (room : s.odo.captures.length < 8) :
    appendCapture n s = (s.setOdo { s.odo with
      captures := s.odo.captures ++ [Capture.mk n s.odo.pos s.odo.v]
      nextNumber := if n < 65535 then some (n + 1) else none }).raise .position 1#16 := by
  have notFull : ¬Config.captureCapacity ≤ s.odo.captures.length := by simp only [Config.captureCapacity]; omega
  rw [appendCapture_eq, Odometer.withCapture, if_neg notFull, decide_eq_false notFull]
  rfl

/-- A capture that the oldest of eight makes room for: the flags CAPTURED and DROPPED are raised in one (R51). -/
theorem appendCapture_full (n : Nat) {s : State} {e : Capture} {rest : List Capture} (h : s.odo.captures = e :: rest)
    (seven : rest.length = 7) :
    appendCapture n s = (s.setOdo { s.odo with
      captures := rest ++ [Capture.mk n s.odo.pos s.odo.v]
      nextNumber := if n < 65535 then some (n + 1) else none }).raise .position 3#16 := by
  have full : Config.captureCapacity ≤ s.odo.captures.length := by
    rw [h, List.length_cons, seven]; decide
  have flags : flagCaptureDropped ||| flagCaptured = 3#16 := by decide
  rw [appendCapture_eq, Odometer.withCapture, if_pos full, decide_eq_true full, h, Notice.raiseIf, Notice.raiseIf,
    if_pos rfl, if_pos rfl, BitVec.or_assoc, flags]
  rfl

/-- Settles O42: the three ways of a sample, and the accepted edge, which a third sample and a command share. -/
theorem markerEdgesMakeCaptures : Obligations.MarkerEdgesMakeCaptures := by
  intro s running
  refine ⟨?_, fun count => ?_, fun high count => ?_, fun low c h => ?_⟩
  · have same : sampleMarker s.odo.marker s = s.setOdo { s.odo with markerCount := 0 } := if_pos rfl
    rw [exec_quiet_event running rfl (by rw [same]; rfl), same]
    rfl
  · have counted : sampleMarker (!s.odo.marker) s =
        s.setOdo { s.odo with markerCount := s.odo.markerCount + 1 } := by simp [sampleMarker, count]
    rw [exec_quiet_event running rfl (by rw [counted]; rfl), counted]
    rfl
  · have taken : sampleMarker false s = s.setOdo { s.odo with marker := false, markerCount := 0 } := by
      simp [sampleMarker, high, count]
    rw [exec_quiet_event running rfl (by rw [taken]; rfl), taken]
    rfl
  · obtain ⟨f, event, accepted⟩ := edge_accepted low h
    have acts : exec c s = .next (chooseIfIdle (acceptHigh s)) := by
      rw [exec_event s event, act_running f running, accepted]
    have captured {n : Nat} (run : s.ctl.run = true) (next : s.odo.nextNumber = some n) :
        acceptHigh s = appendCapture n (s.setOdo { s.odo with marker := true, markerCount := 0 }) := by
      simp [acceptHigh, captureEdge, run, next]
    refine ⟨fun run => ?_, fun run none => ?_, fun n run next room => ?_, fun n e rest run next full seven => ?_⟩
    · have level : acceptHigh s = s.setOdo { s.odo with marker := true, markerCount := 0 } := by
        simp [acceptHigh, captureEdge, run]
      rw [exec_quiet_event running event (by rw [accepted, level]; rfl), accepted, level]
      rfl
    · have refused : acceptHigh s =
          (s.setOdo { s.odo with marker := true, markerCount := 0 }).raise .position 4#16 := by
        simp [acceptHigh, captureEdge, run, none, flagCaptureRefused]
      rw [acts, refused]
      rfl
    · rw [acts, captured run next]
      exact congrArg (fun t => Host.Outcome.next (chooseIfIdle t)) (appendCapture_room n room)
    · rw [acts, captured run next]
      exact congrArg (fun t => Host.Outcome.next (chooseIfIdle t)) (appendCapture_full n full seven)

end Sys2Proof.Machine

namespace Sys2Proof.Machine

open Sys2Proof

/-! ## A slot as a command (R37 to R48, R53, R74, R81, R90) -/

/-- A slot is what its event does, and an idle transmitter then chooses. -/
theorem exec_slot {s : State} (running : Running s) :
    exec .odometrySlot s = .next (chooseIfIdle (takeSlot s)) := by
  rw [exec_event s rfl, act_running _ running]

theorem takeSlot_inRun {s : State} (run : s.ctl.run = true) :
    takeSlot s = slotInRun (slotChoice s) (slotBase s) := by rw [takeSlot_eq, if_pos run]

theorem takeSlot_still {s : State} (run : s.ctl.run = false) : takeSlot s = slotBase s := by
  rw [takeSlot_eq, if_neg (by simp [run])]

/-- Of the odometer a run's slot moves P, ρ, u, trust and the captures. -/
theorem runOdo_frame (c : SlotChoice) (s : State) :
    runOdo c s = { s.odo with
      pos := (movedOdo c s).pos, rho := (movedOdo c s).rho, u := (movedOdo c s).u
      trust := nextTrust s.params (movedOdo c s), captures := (runOdo c s).captures } := by
  unfold runOdo
  rw [movedOdo_frame]

/-- Settles O44: the three ends of an advance by the slot distance. -/
theorem slotDistancesAddToThePositionExactly : Obligations.SlotDistancesAddToThePositionExactly := by
  intro s running low high
  refine ⟨takeSlot s, exec_slot running, fun run => ?_, fun run => ?_⟩
  · rw [takeSlot_still run]
    exact ⟨rfl, rfl⟩
  · have pos : (takeSlot s).odo.pos = (advance (slotDistance s) (slotOdo s)).pos := by
      rw [takeSlot_inRun run, slotInRun_odo]; rfl
    have rho : (takeSlot s).odo.rho = (advance (slotDistance s) (slotOdo s)).rho := by
      rw [takeSlot_inRun run, slotInRun_odo]; rfl
    have before : (slotOdo s).pos = s.odo.pos ∧ (slotOdo s).rho = s.odo.rho := ⟨rfl, rfl⟩
    have ends := advance_cases (slotDistance s) (slotOdo s)
    have remainder := advance_rho (slotDistance s) (slotOdo s)
    rw [before.1, before.2] at ends
    rw [pos, rho]
    exact ⟨remainder.1, remainder.2, fun _ _ => by omega, fun _ => by omega, fun _ => by omega⟩

/-! ## The measurement of both channels (R37 to R42, R45) -/

/-- A quarter forward: the fourth in a row counts a cycle (R37; log entry 5). -/
theorem decode_forward {t : Tacho} {levels : Pair} (h : t.quarters.natAbs ≤ 3) (q : quarterOf t.phase levels = 1) :
    t.decode levels = if t.quarters = 3 then { t with phase := levels, quarters := 0, increment := t.increment + 1 }
      else { t with phase := levels, quarters := t.quarters + 1 } := by
  unfold Tacho.decode
  simp only [q]
  split
  · next full => rw [if_pos (by omega)]
  · next part => rw [if_neg (by omega), if_neg (by omega)]

/-- A quarter back: the fourth in a row takes a cycle back. -/
theorem decode_back {t : Tacho} {levels : Pair} (h : t.quarters.natAbs ≤ 3) (q : quarterOf t.phase levels = -1) :
    t.decode levels = if t.quarters = -3 then { t with phase := levels, quarters := 0, increment := t.increment - 1 }
      else { t with phase := levels, quarters := t.quarters - 1 } := by
  unfold Tacho.decode
  simp only [q]
  rw [if_neg (by omega)]
  split
  · next full => rw [if_pos (by omega)]
  · next part => rw [if_neg (by omega)]; rfl

/-- A change of both lines, or of none, leaves the quarters before it. -/
theorem decode_still {t : Tacho} {levels : Pair} (h : t.quarters.natAbs ≤ 3) (q : quarterOf t.phase levels = 0) :
    t.decode levels = { t with phase := levels } := by
  unfold Tacho.decode
  simp only [q]
  rw [if_neg (by omega), if_neg (by omega), Int.add_zero]

theorem Notice.raiseIf_prop (x : Notice) {c : Bool} {P : Prop} [Decidable P] (flag : Half) (h : c = true ↔ P) :
    x.raiseIf c flag = if P then { pending := true, flags := x.flags ||| flag } else x := if_congr h rfl rfl

theorem newlyFailed_iff (s : State) (n : TachoName) :
    newlyFailed s n = true ↔ (s.odo.tacho n).failed = false ∧ failedAfter s n = true := by simp [newlyFailed]

/-- In a slot a channel newly FAILED is one of the two (R40). -/
theorem eitherFailed_iff (s : State) :
    (newlyFailed s .a || newlyFailed s .b) = true ↔
      (s.odo.tachoA.failed = false ∧ failedAfter s .a = true) ∨
        (s.odo.tachoB.failed = false ∧ failedAfter s .b = true) := by
  rw [Bool.or_eq_true, newlyFailed_iff, newlyFailed_iff]
  rfl

/-- Both channels and the speed window are measured alike in a run and without one (R39 to R42, R45). -/
theorem takeSlot_measured (s : State) :
    (∀ n, (takeSlot s).odo.tacho n = slotTacho s n) ∧ (takeSlot s).odo.window = (slotOdo s).window := by
  cases run : s.ctl.run with
  | false =>
    rw [takeSlot_still run]
    exact ⟨fun n => by cases n <;> rfl, rfl⟩
  | true =>
    rw [takeSlot_inRun run, slotInRun_odo, runOdo_frame]
    exact ⟨fun n => by cases n <;> rfl, rfl⟩

theorem takeSlot_ctl (s : State) : (takeSlot s).ctl = s.ctl := by
  cases run : s.ctl.run with
  | false => rw [takeSlot_still run]; rfl
  | true => rw [takeSlot_inRun run]; exact slotInRun_ctl _ _

/-- The failure test of R40 as its three conditions. -/
theorem mustFail_iff (o : Odometer) (n : TachoName) :
    mustFail o n = true ↔
      (o.tacho n).failed = false ∧ (o.tacho n).silent = 100 ∧ 500 ≤ (o.tacho (otherTacho n)).speed := by
  rw [mustFail, Bool.and_eq_true, Bool.and_eq_true, Bool.not_eq_true', beq_iff_eq, decide_eq_true_iff, and_assoc]
  rfl

/-- Settles O43: the decoder quarter by quarter, the measurement of a slot, and the failure test as a command. -/
theorem slotsMeasureBothChannels : Obligations.SlotsMeasureBothChannels := by
  intro s running
  refine ⟨fun n l1 l2 c d hc quarters leads follows lags trails still => ?_, fun c phase quarters => ?_,
    ⟨takeSlot s, exec_slot running, ?_⟩, fun n good silent speed => ?_, fun n spared => ?_⟩
  · have decoded : c.decode ⟨l1, l2⟩ = d := by
      rcases quarterOf_cases c.phase ⟨l1, l2⟩ with ⟨levels, q⟩ | ⟨levels, q⟩ | ⟨levels, q⟩
      · obtain ⟨rfl, rfl⟩ : l1 = !c.phase.line2 ∧ l2 = c.phase.line1 := by simpa [nextPair] using levels
        rw [decode_forward quarters q]
        by_cases equal : c.phase.line1 = c.phase.line2
        · exact (leads equal ⟨by rw [equal], equal⟩).symm
        · have other := Bool.eq_not.2 equal
          exact (follows equal ⟨other.symm, other⟩).symm
      · obtain ⟨first, rfl⟩ : c.phase.line1 = !l2 ∧ c.phase.line2 = l1 := by
          rw [levels]; exact ⟨rfl, rfl⟩
        obtain rfl : l2 = !c.phase.line1 := by rw [first, Bool.not_not]
        rw [decode_back quarters q]
        by_cases equal : c.phase.line1 = c.phase.line2
        · exact (lags equal ⟨equal.symm, by rw [equal]⟩).symm
        · have other := Bool.eq_not.2 (Ne.symm equal)
          exact (trails equal ⟨other, other.symm⟩).symm
      · rw [decode_still quarters q]
        refine (still ?_).symm
        rcases levels with levels | levels
        · exact .inr ⟨congrArg Pair.line1 levels, congrArg Pair.line2 levels⟩
        · exact .inl ⟨congrArg Pair.line1 levels, congrArg Pair.line2 levels⟩
    rw [exec_quiet_event running rfl rfl, decodePulse, ← hc, decoded]
    cases n <;> rfl
  · obtain ⟨_, _, failed, increment, silent, window⟩ := c
    subst phase quarters
    simp [Tacho.decode, quarterOf, nextPair]
  · have train := takeSlot_train s
    refine ⟨(takeSlot_measured s).1, (takeSlot_measured s).2.trans (slotOdo_window s), takeSlot_ctl s,
      State.train_cars train, State.train_params train, State.train_plan train, State.train_chans train,
      State.train_line train, fun run => ?_⟩
    rw [takeSlot_still run, ← Notice.raiseIf_prop _ _ (eitherFailed_iff s)]
    exact ⟨rfl, rfl, rfl, rfl, rfl, rfl, rfl, rfl, rfl, rfl, rfl⟩
  · have fails : failTacho n s =
        (s.setOdo (s.odo.setTacho n { s.odo.tacho n with failed := true })).raise .position 64#16 :=
      if_pos ((mustFail_iff _ _).2 ⟨good, silent, speed⟩)
    refine ⟨failTacho n s, by rw [exec_event s rfl, act_running _ running], ?_⟩
    rw [fails]
    exact ⟨Odometer.tacho_setTacho _ _ _, Odometer.tacho_setTacho_other _ _ _, rfl, by cases n <;> rfl,
      by cases n <;> rfl⟩
  · have spares : failTacho n s = s := if_neg fun must => by
      obtain ⟨good, silent, speed⟩ := (mustFail_iff _ _).1 must
      rcases spared with h | h | h
      · rw [h] at good; cases good
      · exact h silent
      · omega
    rw [exec_quiet_event running rfl (by rw [spares]), spares]

/-! ## What else a slot of a run does (R40, R42, R44, R48, R53, R74, R81, R90) -/

/-- The POSITION notice of a run's slot: a channel newly FAILED, a slide, trust changed, a capture expired. -/
theorem takeSlot_position {s : State} (run : s.ctl.run = true) :
    (takeSlot s).link.notices.position =
      (((s.link.notices.position.raiseIf (newlyFailed s .a || newlyFailed s .b) 64#16).raiseIf (isSlide s)
        32#16).raiseIf ((takeSlot s).odo.trust != s.odo.trust) 16#16).raiseIf
        (s.odo.captures.any fun e => decide ((s.params.captureExpiry : Int) < (takeSlot s).odo.pos - e.position))
        8#16 := by
  have trust : (movedOdo (slotChoice s) (slotBase s)).trust = s.odo.trust := by rw [movedOdo_frame]; rfl
  have captures : (movedOdo (slotChoice s) (slotBase s)).captures = s.odo.captures := by rw [movedOdo_frame]; rfl
  rw [takeSlot_inRun run, slotInRun_odo, slotInRun_link]
  show runNotice (slotChoice s) (slotBase s) = _
  unfold runNotice
  rw [trust, captures]
  rfl

/-- Settles O45: each block behind a run's slot, and the POSITION notice raise by raise. -/
theorem slotsOfARunUpdateUncertaintyAndRelease : Obligations.SlotsOfARunUpdateUncertaintyAndRelease := by
  intro s running run
  have slot := takeSlot_inRun run
  have odo : (takeSlot s).odo = runOdo (slotChoice s) (slotBase s) := by rw [slot, slotInRun_odo]
  have kept := runOdo_captures (slotChoice s) (slotBase s)
  have geo := slotInRun_geo (slotChoice s) (slotBase s)
  have ring := slotInRun_ring (slotChoice s) (slotBase s)
  have link := slotInRun_link (slotChoice s) (slotBase s)
  rw [← slot] at geo ring link
  rw [← odo] at kept
  have uncertainty : (takeSlot s).odo.u = slotUncertainty s := by
    rw [odo]
    refine growU_slotGrowth (s := s) ?_
    rw [advance_frame]
    rfl
  have trust : (takeSlot s).odo.trust = true ↔
      (s.odo.trust = true ∧ (takeSlot s).odo.u ≤ s.params.uMax * 10000) ∨
        (s.odo.trust = false ∧ (takeSlot s).odo.u ≤ s.params.uResume * 10000) := by
    have before : (movedOdo (slotChoice s) (slotBase s)).trust = s.odo.trust := by rw [movedOdo_frame]; rfl
    rw [odo, ← before]
    exact nextTrust_iff _ _
  have position := takeSlot_position run
  have expired : (s.odo.captures.any fun e =>
        decide ((s.params.captureExpiry : Int) < (takeSlot s).odo.pos - e.position)) = true ↔
      ∃ c ∈ s.odo.captures, (s.params.captureExpiry : Int) < (takeSlot s).odo.pos - c.position := by simp
  have newly : (newlyFailed s .a || newlyFailed s .b) = true ↔
      ∃ n, (s.odo.tacho n).failed = false ∧ failedAfter s n = true := by
    simp only [Bool.or_eq_true, ← newlyFailed_iff]
    exact ⟨fun h => h.elim (⟨_, ·⟩) (⟨_, ·⟩), fun ⟨n, h⟩ => by cases n; exacts [.inl h, .inr h]⟩
  refine ⟨takeSlot s, exec_slot running, uncertainty, trust, kept.1, kept.2, ?_, ?_, congrArg GeoStore.committed geo,
    (congrArg GeoStore.batch geo).trans rfl, ?_, ring, ?_, ?_, ?_⟩
  · rw [odo, runOdo_frame]; rfl
  · rw [odo, runOdo_frame]; rfl
  · rw [slot]
    exact slotInRun_lookAhead _ rfl rfl rfl
  · rw [link]; rfl
  · rw [position]
    simp only [Notice.raiseIf_pending, Bool.or_eq_true, newly, expired, bne_iff_ne, or_assoc, ne_eq]
  · rw [position]
    simp only [Notice.raiseIf_flags, eitherFailed_iff, expired, bne_iff_ne, ne_eq, ite_not]

end Sys2Proof.Machine

namespace Sys2Proof.Machine

open Sys2Proof

/-! ## Reading a reply field by field (R187) -/

/-! A field that lies behind the first part of a body is a field of what follows that part. -/

theorem natAt_cons (n k : Nat) (b : Byte) (rest : List Byte) : natAt n (k + 1) (b :: rest) = natAt n k rest := by
  rw [Nat.add_comm]; exact natAt_skip n k [b] rest

theorem natAt_header (n k : Nat) (r : ResultCode) (d : Detail) (arg : Nat) (rest : List Byte) :
    natAt n (k + 4) (header r d arg ++ rest) = natAt n k rest := by
  rw [Nat.add_comm]; exact natAt_skip n k (header r d arg) rest

theorem natAt_behind_u16 (n k x : Nat) (rest : List Byte) : natAt n (k + 2) (u16 x ++ rest) = natAt n k rest := by
  rw [Nat.add_comm]; exact natAt_skip n k (u16 x) rest

theorem natAt_behind_u32 (n k x : Nat) (rest : List Byte) : natAt n (k + 4) (u32 x ++ rest) = natAt n k rest := by
  rw [Nat.add_comm]; exact natAt_skip n k (u32 x) rest

theorem natAt_behind_i32 (n k : Nat) (x : Int) (rest : List Byte) :
    natAt n (k + 4) (i32 x ++ rest) = natAt n k rest := by
  rw [Nat.add_comm]; exact natAt_skip n k (i32 x) rest

theorem intAt_cons (n k : Nat) (b : Byte) (rest : List Byte) : intAt n (k + 1) (b :: rest) = intAt n k rest := by
  rw [Nat.add_comm]; exact intAt_skip n k [b] rest

theorem intAt_header (n k : Nat) (r : ResultCode) (d : Detail) (arg : Nat) (rest : List Byte) :
    intAt n (k + 4) (header r d arg ++ rest) = intAt n k rest := by
  rw [Nat.add_comm]; exact intAt_skip n k (header r d arg) rest

theorem intAt_behind_u16 (n k x : Nat) (rest : List Byte) : intAt n (k + 2) (u16 x ++ rest) = intAt n k rest := by
  rw [Nat.add_comm]; exact intAt_skip n k (u16 x) rest

theorem intAt_behind_i32 (n k : Nat) (x : Int) (rest : List Byte) :
    intAt n (k + 4) (i32 x ++ rest) = intAt n k rest := by
  rw [Nat.add_comm]; exact intAt_skip n k (i32 x) rest

theorem natAt_first (b : Byte) (rest : List Byte) : natAt 1 0 (b :: rest) = b.toNat := natAt_byte 0 _

/-- A byte sent is the value, held at the end of its range. -/
theorem u8_toNat_min (n : Nat) : (u8 n).toNat = min 255 n := by
  rw [u8, BitVec.toNat_ofNat]; omega

theorem okFrame_body (code tag : Byte) (body : List Byte) :
    (okFrame code tag body).body = header .ok .none 0 ++ body := rfl

/-! ## ResolveCapture (R48, R54 to R56, R81, R91) -/

/-- ResolveCapture in a run on a free link is its owner's. -/
theorem exec_resolveCapture {s : State} (tag : Byte) (n : Half) (x : Word) (free : LinkFree s)
    (run : s.ctl.run = true) :
    exec (.resolveCapture tag n 0#8 0#8 x) s = .next (chooseIfIdle (handleResolveCapture tag n x s)) := by
  exact exec_served (c := .resolveCapture tag n 0#8 0#8 x) free rfl rfl run rfl

/-- The bytes of ResolveCapture after its header, read in the state that the fix has left (R191). -/
def fixBytes (d : Int) (superseded : Nat) (t : State) : List Byte :=
  i32 d ++ i32 t.odo.pos ++ u32 t.odo.uCm ++ [yesNo t.odo.trust, u8 superseded] ++ reserved 2

/-- A request with the number 0 or a position out of its range is refused BAD_VALUE (R54). -/
theorem handleResolveCapture_badValue {n : Half} {x : Word} (tag : Byte) (s : State)
    (out : n = 0#16 ∨ inRoute x.toInt = false) :
    handleResolveCapture tag n x s = s.respond { kind := 0x98#8, tag := tag, body := [3, 0, 0, 0] } :=
  if_pos (out.imp_left fun zero => by rw [zero]; rfl)

section
variable {s : State} {n : Half} {x : Word} (tag : Byte) (nonzero : n ≠ 0#16) (inside : inRoute x.toInt = true)
include nonzero inside

theorem number_inside : ¬(n.toNat = 0 ∨ inRoute x.toInt = false) := by
  rintro (zero | out)
  · exact nonzero (BitVec.eq_of_toNat_eq zero)
  · rw [inside] at out; cases out

/-- An open capture is resolved: the fix by its δ, and the reply (R55). -/
theorem handleResolveCapture_fix {c : Capture} (found : s.odo.captures.find? (fun e => e.number == n.toNat) = some c) :
    handleResolveCapture tag n x s =
      (applyFix n.toNat (x.toInt - c.position) s).respond (okFrame 0x18#8 tag
        (fixBytes (x.toInt - c.position) (s.odo.captures.countP (fun e => decide (e.number < n.toNat)))
          (applyFix n.toNat (x.toInt - c.position) s))) := by
  unfold handleResolveCapture
  dsimp only
  rw [if_neg (number_inside nonzero inside), found]
  rfl

variable (absent : ∀ e ∈ s.odo.captures, e.number ≠ n.toNat)
include absent

omit nonzero inside in
theorem find_absent : s.odo.captures.find? (fun e => e.number == n.toNat) = none :=
  List.find?_eq_none.2 fun e he => by simpa using absent e he

/-- A number that the captures have passed is STALE (R54). -/
theorem handleResolveCapture_stale
    (stale : s.odo.nextNumber = none ∨ ∃ m, s.odo.nextNumber = some m ∧ n.toNat < m) :
    handleResolveCapture tag n x s = s.respond { kind := 0x98#8, tag := tag, body := [9, 0, 0, 0] } := by
  unfold handleResolveCapture
  dsimp only
  rw [if_neg (number_inside nonzero inside), find_absent absent]
  rcases stale with next | ⟨m, next, below⟩
  · rw [next]; rfl
  · rw [next]; exact if_pos below

/-- A number that no capture has had is NOT_FOUND (R54). -/
theorem handleResolveCapture_notFound {m : Nat} (next : s.odo.nextNumber = some m) (beyond : m ≤ n.toNat) :
    handleResolveCapture tag n x s = s.respond { kind := 0x98#8, tag := tag, body := [8, 0, 0, 0] } := by
  unfold handleResolveCapture
  dsimp only
  rw [if_neg (number_inside nonzero inside), find_absent absent, next]
  exact if_neg (by omega)

end

/-- A fix restores trust, since fixAccuracy lies within uResume and uMax (R10, R48). -/
theorem nextTrust_fixed {s : State} (params : ParamsLaw s) (n : Nat) (d : Int) :
    nextTrust s.params (fixedOdo n d s) = true := by
  obtain ⟨-, resume, most, -⟩ := params
  rw [nextTrust_iff]
  cases (fixedOdo n d s).trust
  · exact .inr ⟨rfl, by show s.params.fixAccuracy * 10000 ≤ _; omega⟩
  · exact .inl ⟨rfl, by show s.params.fixAccuracy * 10000 ≤ _; omega⟩

/-- A fix moves the odometer, the ring, the armed flag and two notices, and nothing else (R55, R81, R91). -/
theorem applyFix_frame (n : Nat) (d : Int) (s : State) :
    (applyFix n d s).geo = { s.geo with armed := (applyFix n d s).geo.armed } ∧
    (applyFix n d s).link = { s.link with notices := { s.link.notices with
      position := (fixBase n d s).link.notices.position
      geometry := (applyFix n d s).link.notices.geometry } } ∧
    LookAheadEvaluated s (applyFix n d s) := by
  rw [applyFix_eq]
  exact ⟨evaluateLookAhead_geo _, evaluateLookAhead_link _,
    lookAheadEvaluated_of (u := fixBase n d s) rfl rfl rfl (congrArg Odometer.pos (evaluateLookAhead_odo _)) rfl rfl⟩

/-- The fields of the reply to a fix. -/
theorem fixBytes_fields (tag : Byte) (d : Int) (superseded : Nat) {t : State} (pos : Config.posMin ≤ t.odo.pos)
    (pos' : t.odo.pos ≤ Config.posMax) (u : t.odo.uCm ≤ 4294967295) :
    intAt 4 4 (okFrame 0x18#8 tag (fixBytes d superseded t)).body = saturatePos d ∧
    intAt 4 8 (okFrame 0x18#8 tag (fixBytes d superseded t)).body = t.odo.pos ∧
    natAt 4 12 (okFrame 0x18#8 tag (fixBytes d superseded t)).body = t.odo.uCm ∧
    natAt 1 16 (okFrame 0x18#8 tag (fixBytes d superseded t)).body = (yesNo t.odo.trust).toNat ∧
    natAt 1 17 (okFrame 0x18#8 tag (fixBytes d superseded t)).body = min 255 superseded := by
  have held : saturatePos t.odo.pos = t.odo.pos := saturatePos_of_mem pos pos'
  simp only [okFrame_body, fixBytes, List.append_assoc, List.cons_append, List.nil_append]
  refine ⟨?_, ?_, ?_, ?_, ?_⟩
  · simp only [intAt_header, intAt_i32]
  · simp only [intAt_header, intAt_behind_i32, intAt_i32, held]
  · simp only [natAt_header, natAt_behind_i32, natAt_u32 u]
  · simp only [natAt_header, natAt_behind_i32, natAt_behind_u32, natAt_first]
  · simp only [natAt_header, natAt_behind_i32, natAt_behind_u32, natAt_cons, natAt_first, u8_toNat_min]

/-- The POSITION notice of a fix: a large correction, and trust regained (R48, R56). -/
theorem fixBase_position {s : State} (params : ParamsLaw s) (n : Nat) (d : Int) :
    (fixBase n d s).link.notices.position =
      (s.link.notices.position.raiseIf (largeCorrection d s) 128#16).raiseIf (!s.odo.trust) 16#16 := by
  have before : (fixedOdo n d s).trust = s.odo.trust := by rw [fixedOdo_eq]
  have regained : (nextTrust s.params (fixedOdo n d s) != (fixedOdo n d s).trust) = !s.odo.trust := by
    rw [nextTrust_fixed params, before, Bool.true_bne]
  rw [← regained]
  rfl

/-- Settles O33: the fix block by block with its reply, and the refusals of a number that is not in the list. -/
theorem fixesCorrectThePosition : Obligations.FixesCorrectThePosition := by
  intro s tag n x free run
  have acts := exec_resolveCapture tag n x free run
  refine ⟨fun c params odometer nonzero inside found => ?_, fun out => ?_, fun nonzero inside absent =>
    ⟨fun stale => ?_, fun m next beyond => ?_⟩⟩
  · rw [handleResolveCapture_fix tag nonzero inside found] at acts
    generalize x.toInt - c.position = d at *
    have odo := applyFix_odo n.toNat d s
    have position := fixBase_position params n.toNat d
    have ring := applyFix_ring n.toNat d s
    have ctl := applyFix_ctl n.toNat d s
    have train := applyFix_train n.toNat d s
    obtain ⟨geo, link, evaluated⟩ := applyFix_frame n.toNat d s
    rw [nextTrust_fixed params, fixedOdo_eq] at odo
    rw [position] at link
    generalize applyFix n.toNat d s = t at *
    have notice : t.link.notices.position =
        (s.link.notices.position.raiseIf (largeCorrection d s) 128#16).raiseIf (!s.odo.trust) 16#16 := by rw [link]
    have large : largeCorrection d s = true ↔ s.odo.uCm + s.params.fixAccuracy < d.natAbs := decide_eq_true_iff
    have pos : t.odo.pos = saturatePos (s.odo.pos + d) := by rw [odo]
    have trust : t.odo.trust = true := by rw [odo]
    obtain ⟨number, window, tachoA, tachoB, marker⟩ : t.odo.nextNumber = s.odo.nextNumber ∧
        t.odo.window = s.odo.window ∧ t.odo.tachoA = s.odo.tachoA ∧ t.odo.tachoB = s.odo.tachoB ∧
        t.odo.marker = s.odo.marker := by rw [odo]; exact ⟨rfl, rfl, rfl, rfl, rfl⟩
    obtain ⟨committed, batch⟩ : t.geo.committed = s.geo.committed ∧ t.geo.batch = s.geo.batch := by
      rw [geo]; exact ⟨rfl, rfl⟩
    have uCm : t.odo.uCm = s.params.fixAccuracy := by
      rw [odo, Odometer.uCm]; dsimp only; omega
    have fine := params.fixAccuracy_le
    obtain ⟨delta, posField, uField, trustField, superseded⟩ := fixBytes_fields tag d
      (s.odo.captures.countP (fun e => decide (e.number < n.toNat))) (t := t)
      (by rw [pos]; exact (saturatePos_mem _).1) (by rw [pos]; exact (saturatePos_mem _).2) (by omega)
    rw [uCm] at uField
    rw [trust] at trustField
    refine ⟨_, _, acts, rfl, pos, fun h => (congrArg Odometer.rho odo).trans (if_pos h),
      fun h => (congrArg Odometer.rho odo).trans (if_neg h), evaluated, congrArg Odometer.captures odo,
      number, window, tachoA, tachoB, marker, congrArg Odometer.u odo, trust, ring, ?_, ?_, ?_, committed, batch, ctl,
      State.train_cars train,
      State.train_params train, State.train_plan train, State.train_chans train, State.train_line train, rfl, rfl, rfl,
      rfl, delta, posField, uField, trustField, superseded⟩
    · rw [State.respond, State.setLink_link, link]
    · show t.link.notices.position.pending = true ↔ _
      simp only [notice, Notice.raiseIf_pending, Bool.or_eq_true, large, Bool.not_eq_true', or_assoc]
    · show t.link.notices.position.flags = _
      simp only [notice, Notice.raiseIf_flags, large]
      cases s.odo.trust <;> rfl
  · rw [acts, handleResolveCapture_badValue tag s out]
  · rw [acts, handleResolveCapture_stale tag nonzero inside absent stale]
  · rw [acts, handleResolveCapture_notFound tag nonzero inside absent next beyond]

end Sys2Proof.Machine

namespace Sys2Proof.Machine

open Sys2Proof

/-! ## QueryPosition (R46, R58, R191) -/

/-- The bytes of QueryPosition after its header, up to the capture items (R191). -/
def positionBytes (s : State) : List Byte :=
  [yesNo s.ctl.run, yesNo s.odo.trust] ++ u16 (s.odo.nextNumber.getD 0) ++ i32 s.odo.pos ++
    u16 s.odo.rho.toNat ++ u16 s.odo.v ++ u32 s.odo.uCm ++
    tachoBytes s.odo.tachoA (s.params.pulseDistance .a) ++ tachoBytes s.odo.tachoB (s.params.pulseDistance .b) ++
    [u8 s.odo.captures.length] ++ reserved 3

theorem handleQueryPosition_eq (tag : Byte) (s : State) :
    handleQueryPosition tag s =
      s.respond (okFrame 0x19#8 tag (positionBytes s ++ s.odo.captures.flatMap captureBytes)) := rfl

theorem windowSpeed_le (w : List Int) : windowSpeed w ≤ 8000 := min_le_left _ _

/-- A rounded quotient of natural numbers is not negative, and not large. -/
theorem rounded_range {n d : Int} (h : 0 ≤ n) (hd : 0 < d) : 0 ≤ rounded n d ∧ rounded n d ≤ 2 * n + d := by
  rw [rounded, if_pos h]
  exact ⟨Int.ediv_nonneg (by omega) (by omega), Int.ediv_le_self _ (by omega)⟩

/-- The pulse distance of a channel fits its field (R9, R13). -/
theorem ParamsLaw.pulseDistance_range {s : State} (h : ParamsLaw s) (n : TachoName) :
    0 ≤ s.params.pulseDistance n ∧ s.params.pulseDistance n ≤ 4294967295 := by
  obtain ⟨-, circA⟩ := h.range (k := 13) rfl rfl
  obtain ⟨-, circB⟩ := h.range (k := 14) rfl rfl
  obtain ⟨lowA, highA⟩ := h.range (k := 15) rfl rfl
  obtain ⟨lowB, highB⟩ := h.range (k := 16) rfl rfl
  dsimp only at circA circB lowA highA lowB highB
  cases n with
  | a =>
    obtain ⟨low, high⟩ := rounded_range (n := s.params.circumferenceA * 1000) (d := s.params.pulsesPerRevA)
      (by omega) (by omega)
    exact ⟨low, high.trans (by omega)⟩
  | b =>
    obtain ⟨low, high⟩ := rounded_range (n := s.params.circumferenceB * 1000) (d := s.params.pulsesPerRevB)
      (by omega) (by omega)
    exact ⟨low, high.trans (by omega)⟩

/-- A field of an item of a list, where every item is sent in w bytes: a field of the item's own bytes. -/
theorem natAt_flatMap {α : Type} {f : α → List Byte} {w : Nat} (width : ∀ c, (f c).length = w) {l : List α} {i : Nat}
    {c : α} (h : l[i]? = some c) :
    ∃ rest, ∀ n j, natAt n (w * i + j) (l.flatMap f) = natAt n j (f c ++ rest) := by
  induction l generalizing i with
  | nil => cases h
  | cons a l ih =>
    cases i with
    | zero =>
      obtain rfl : a = c := Option.some.inj h
      exact ⟨l.flatMap f, fun n j => by rw [Nat.mul_zero, Nat.zero_add, List.flatMap_cons]⟩
    | succ i =>
      obtain ⟨rest, field⟩ := ih (i := i) h
      refine ⟨rest, fun n j => ?_⟩
      have place : w * (i + 1) + j = (f a).length + (w * i + j) := by rw [width, Nat.mul_succ]; omega
      rw [List.flatMap_cons, place, natAt_skip, field]

theorem intAt_congr {n j k : Nat} {b c : List Byte} (h : natAt n j b = natAt n k c) : intAt n j b = intAt n k c := by
  rw [intAt, intAt, h]

theorem reserved_two : reserved 2 = [0#8, 0#8] := rfl

section
variable {s : State} {body items : List Byte} (h : body = header .ok .none 0 ++ (positionBytes s ++ items))
include h

/-- The fields of the odometer's own quantities. -/
theorem position_fields (law : s.odo.Sound) (next : s.odo.nextNumber.getD 0 ≤ 65535) :
    (natAt 1 4 body = 1 ↔ s.ctl.run = true) ∧ (natAt 1 5 body = 1 ↔ s.odo.trust = true) ∧
    natAt 2 6 body = s.odo.nextNumber.getD 0 ∧ intAt 4 8 body = s.odo.pos ∧
    (natAt 2 12 body : Int) = s.odo.rho ∧ natAt 2 14 body = s.odo.v ∧ natAt 4 16 body = s.odo.uCm := by
  obtain ⟨rhoLow, rhoHigh⟩ := law.rho
  have pos : saturatePos s.odo.pos = s.odo.pos := saturatePos_of_mem law.pos.1 law.pos.2
  have rho : s.odo.rho.toNat ≤ 65535 := by omega
  have speed : s.odo.v ≤ 65535 := (windowSpeed_le _).trans (by decide)
  have u : s.odo.uCm ≤ 4294967295 := by
    have := law.u
    simp only [Config.uCeiling] at this
    rw [Odometer.uCm]; omega
  subst h
  simp only [positionBytes, List.append_assoc, List.cons_append, List.nil_append]
  refine ⟨?_, ?_, ?_, ?_, ?_, ?_, ?_⟩
  · simp only [natAt_header, natAt_first, yesNo_eq_one]
  · simp only [natAt_header, natAt_cons, natAt_first, yesNo_eq_one]
  · simp only [natAt_header, natAt_cons, natAt_u16 next]
  · simp only [intAt_header, intAt_cons, intAt_behind_u16, intAt_i32, pos]
  · simp only [natAt_header, natAt_cons, natAt_behind_u16, natAt_behind_i32, natAt_u16 rho, Int.toNat_of_nonneg rhoLow]
  · simp only [natAt_header, natAt_cons, natAt_behind_u16, natAt_behind_i32, natAt_u16 speed]
  · simp only [natAt_header, natAt_cons, natAt_behind_u16, natAt_behind_i32, natAt_u32 u]

/-- The fields of the two channels and the count of the captures. -/
theorem channel_fields (law : s.odo.Sound) (params : ParamsLaw s) (captures : s.odo.captures.length ≤ 8) :
    (natAt 1 20 body = 1 ↔ s.odo.tachoA.failed = true) ∧ natAt 1 21 body = s.odo.tachoA.silent ∧
    natAt 2 22 body = s.odo.tachoA.speed ∧ (natAt 4 24 body : Int) = s.params.pulseDistance .a ∧
    (natAt 1 28 body = 1 ↔ s.odo.tachoB.failed = true) ∧ natAt 1 29 body = s.odo.tachoB.silent ∧
    natAt 2 30 body = s.odo.tachoB.speed ∧ (natAt 4 32 body : Int) = s.params.pulseDistance .b ∧
    natAt 1 36 body = s.odo.captures.length := by
  obtain ⟨-, silentA, -⟩ := law.tacho .a
  obtain ⟨-, silentB, -⟩ := law.tacho .b
  have byteA : s.odo.tachoA.silent ≤ 255 := silentA.trans (by decide)
  have byteB : s.odo.tachoB.silent ≤ 255 := silentB.trans (by decide)
  have count : s.odo.captures.length ≤ 255 := by omega
  have speed (t : Tacho) : t.speed ≤ 65535 := (windowSpeed_le _).trans (by decide)
  have pulse (n : TachoName) : (s.params.pulseDistance n).toNat ≤ 4294967295 := by
    have := params.pulseDistance_range n
    omega
  have natural (n : TachoName) := Int.toNat_of_nonneg (params.pulseDistance_range n).1
  subst h
  simp only [positionBytes, tachoBytes, List.append_assoc, List.cons_append, List.nil_append]
  refine ⟨?_, ?_, ?_, ?_, ?_, ?_, ?_, ?_, ?_⟩ <;>
    simp only [natAt_header, natAt_cons, natAt_behind_u16, natAt_behind_i32, natAt_behind_u32, natAt_first,
      yesNo_eq_one, u8_toNat byteA, u8_toNat byteB, u8_toNat count, natAt_u16 (speed _), natAt_u32 (pulse _), natural]

end

/-- The fields of a capture item, behind the forty bytes before the items. -/
theorem capture_fields {s : State} {body : List Byte} {i : Nat} {c : Capture}
    (h : body = header .ok .none 0 ++ (positionBytes s ++ s.odo.captures.flatMap captureBytes))
    (item : s.odo.captures[i]? = some c) (number : c.number ≤ 65535) :
    natAt 2 (40 + 8 * i) body = c.number ∧ natAt 2 (42 + 8 * i) body = min c.speed 65535 ∧
      intAt 4 (44 + 8 * i) body = saturatePos c.position := by
  obtain ⟨rest, inItem⟩ := natAt_flatMap (f := captureBytes) (w := 8) (fun _ => rfl) item
  have field (n j : Nat) : natAt n (40 + (8 * i + j)) body = natAt n j (captureBytes c ++ rest) := by
    rw [← inItem, h, ← List.append_assoc]
    exact natAt_skip n (8 * i + j) (header .ok .none 0 ++ positionBytes s) _
  have bytes : captureBytes c ++ rest = u16 c.number ++ (u16 c.speed ++ (i32 c.position ++ rest)) := by
    simp only [captureBytes, List.append_assoc]
  have position := intAt_congr (field 4 4)
  have speed (x : Nat) (tail : List Byte) : natAt 2 0 (u16 x ++ tail) = min x 65535 := by
    rw [u16, natAt_bytes2, BitVec.toNat_ofNat]; omega
  rw [bytes] at position
  simp only [bytes] at field
  refine ⟨?_, ?_, ?_⟩
  · exact (field 2 0).trans (natAt_u16 number _)
  · rw [show 42 + 8 * i = 40 + (8 * i + 2) by omega, field 2 2, natAt_behind_u16, speed]
  · rw [show 44 + 8 * i = 40 + (8 * i + 4) by omega, position]
    simp only [intAt_behind_u16, intAt_i32]

/-! ## QueryGeometry (R80, R83, R191) -/

/-- The bytes of QueryGeometry after its header (R191). -/
def geometryBytes (s : State) : List Byte :=
  [yesNo s.geo.firstStart.isSome, yesNo s.geo.committedEnd.isSome, yesNo s.geo.batch.isSome,
    yesNo s.geo.batch.isSome] ++ u16 s.geo.committed.length ++ u16 s.geo.freeCount ++
    [u8 s.geo.stagedCount, yesNo s.geo.armed] ++ reserved 2 ++ i32 (s.geo.firstStart.getD 0) ++
    i32 (s.geo.committedEnd.getD 0) ++ i32 ((s.geo.batch.map Batch.declared).getD 0) ++ i32 (lookAhead s)

theorem handleQueryGeometry_eq (tag : Byte) (s : State) :
    handleQueryGeometry tag s = s.respond (okFrame 0x24#8 tag (geometryBytes s)) := rfl

theorem GeometryLaw.stagedCount_le {s : State} (law : GeometryLaw s) : s.geo.stagedCount ≤ 255 := by
  obtain ⟨-, -, -, staged⟩ := law
  unfold GeoStore.stagedCount
  cases h : s.geo.batch with
  | none => exact Nat.zero_le _
  | some b => exact (staged b h).1.trans (by decide)

/-- The fields of the extent of the route, the batch and the look-ahead. -/
theorem geometry_fields {s : State} {body : List Byte} (h : body = header .ok .none 0 ++ geometryBytes s)
    (law : GeometryLaw s) :
    (natAt 1 4 body = 1 ↔ s.geo.committed ≠ []) ∧ (natAt 1 5 body = 1 ↔ s.geo.committed ≠ []) ∧
    (natAt 1 6 body = 1 ↔ s.geo.batch ≠ none) ∧ (natAt 1 7 body = 1 ↔ s.geo.batch ≠ none) ∧
    natAt 2 8 body = s.geo.committed.length ∧ natAt 2 10 body = s.geo.freeCount ∧
    natAt 1 12 body = s.geo.stagedCount ∧ (natAt 1 13 body = 1 ↔ s.geo.armed = true) ∧
    intAt 4 16 body = saturatePos (s.geo.firstStart.getD 0) ∧
    intAt 4 20 body = saturatePos (s.geo.committedEnd.getD 0) ∧
    intAt 4 24 body = saturatePos ((s.geo.batch.map Batch.declared).getD 0) ∧
    intAt 4 28 body = saturatePos (lookAhead s) := by
  have held : s.geo.committed.length ≤ 65535 := law.1.trans (by decide)
  have room : s.geo.freeCount ≤ 65535 := (Nat.sub_le _ _).trans (by decide)
  have first : s.geo.firstStart.isSome = true ↔ s.geo.committed ≠ [] := by simp [GeoStore.firstStart]
  have last : s.geo.committedEnd.isSome = true ↔ s.geo.committed ≠ [] := by simp [GeoStore.committedEnd]
  have batch : s.geo.batch.isSome = true ↔ s.geo.batch ≠ none := Option.isSome_iff_ne_none
  have ahead := intAt_i32 (lookAhead s) []
  rw [List.append_nil] at ahead
  subst h
  simp only [geometryBytes, reserved_two, List.append_assoc, List.cons_append, List.nil_append]
  refine ⟨?_, ?_, ?_, ?_, ?_, ?_, ?_, ?_, ?_, ?_, ?_, ?_⟩
  case refine_9 => simp only [intAt_header, intAt_cons, intAt_behind_u16, intAt_i32]
  case refine_10 => simp only [intAt_header, intAt_cons, intAt_behind_u16, intAt_behind_i32, intAt_i32]
  case refine_11 => simp only [intAt_header, intAt_cons, intAt_behind_u16, intAt_behind_i32, intAt_i32]
  case refine_12 => simp only [intAt_header, intAt_cons, intAt_behind_u16, intAt_behind_i32, ahead]
  all_goals
    simp only [natAt_header, natAt_cons, natAt_behind_u16, natAt_first, yesNo_eq_one, first, last, batch,
      natAt_u16 held, natAt_u16 room, u8_toNat law.stagedCount_le]

/-- Settles O24: each field read at its place behind the reply's header. -/
theorem positionAndGeometryRepliesCarryTheirState : Obligations.PositionAndGeometryRepliesCarryTheirState := by
  intro s tag free
  refine ⟨fun params odometer captures => ?_, fun geometry => ?_⟩
  · have law := (odometerLaw_iff s).1 odometer
    obtain ⟨most, -, numbers, nextNumber⟩ := captures
    have next : s.odo.nextNumber.getD 0 ≤ 65535 := by
      cases e : s.odo.nextNumber with
      | none => exact Nat.zero_le _
      | some n => exact (nextNumber n e).2.1
    have body := okFrame_body 0x19#8 tag (positionBytes s ++ s.odo.captures.flatMap captureBytes)
    obtain ⟨run, trust, number, pos, rho, speed, u⟩ := position_fields body law next
    obtain ⟨failedA, silentA, speedA, pulseA, failedB, silentB, speedB, pulseB, count⟩ :=
      channel_fields body law params most
    refine ⟨_, ?_, rfl, rfl, rfl, run, trust, number, pos, rho, speed, u, failedA, silentA, speedA, pulseA, failedB,
      silentB, speedB, pulseB, count, fun i c item =>
        capture_fields body item (numbers c (List.mem_of_getElem? item)).2⟩
    rw [exec_served (c := .queryPosition tag) free rfl rfl rfl rfl, serve, handleQueryPosition_eq]
  · obtain ⟨first, last, batch, batch', held, room, staged, armed, start, stop, declared, ahead⟩ :=
      geometry_fields (okFrame_body 0x24#8 tag (geometryBytes s)) geometry
    rw [lookAhead_eq] at ahead
    refine ⟨_, ?_, rfl, rfl, rfl, first, last, batch, batch', held, room, staged, armed, start, stop, declared, ahead⟩
    rw [exec_served (c := .queryGeometry tag) free rfl rfl rfl rfl, serve, handleQueryGeometry_eq]

end Sys2Proof.Machine

namespace Sys2Proof.Machine

open Sys2Proof

/-! ## Segment records within their ranges (R62, R69) -/

/-- A cap passes exactly where it is absent or at most 10,000 (R62, R187). -/
theorem capOf_le_iff (c : Half) : (capOf c).getD 0 ≤ 10000 ↔ c = 0xFFFF#16 ∨ c.toNat ≤ 10000 := by
  unfold capOf
  split
  · next absent => simp [absent]
  · next present => simp only [present, false_or, Option.getD_some]; omega

open Classical in
/-- The search of a list, one place at a time. -/
theorem find?_cons_ite {α : Type} (p : α → Prop) (a : α) (l : List α) :
    (a :: l).find? (fun x => decide (¬p x)) = if ¬p a then some a else l.find? (fun x => decide (¬p x)) := by
  by_cases h : p a <;> simp [h]

open Classical in
/-- The field reported is the first that is out of its range; there is no field 0. -/
theorem badField_eq_find (w : SegmentWire) :
    badField w = (List.range 8).find? (fun f => decide (¬passesField w f)) := by
  have route (x : Int) : inRoute x = true ↔ -2000000000 ≤ x ∧ x ≤ 2000000000 := decide_eq_true_iff
  have zero : passesField w 0 := by simp [passesField]
  have start : ¬passesField w 1 ↔ (!inRoute w.start.toInt) = true := by simp [passesField, ← route]
  have length : ¬passesField w 2 ↔ (w.length.toNat : Int) < 100 ∨ 500000 < (w.length.toNat : Int) := by
    simp [passesField]; omega
  have curveStart : ¬passesField w 3 ↔ 20000 < w.curveStart.toInt.natAbs := by simp [passesField]
  have curveStop : ¬passesField w 4 ↔ 20000 < w.curveStop.toInt.natAbs := by simp [passesField]
  have cantStart : ¬passesField w 5 ↔ 200 < w.cantStart.toInt.natAbs := by simp [passesField]
  have cantStop : ¬passesField w 6 ↔ 200 < w.cantStop.toInt.natAbs := by simp [passesField]
  have cap : ¬passesField w 7 ↔ 10000 < (capOf w.cap).getD 0 := by
    rw [← not_le, capOf_le_iff]; simp [passesField]
  rw [show List.range 8 = [0, 1, 2, 3, 4, 5, 6, 7] from rfl]
  simp only [find?_cons_ite, start, length, curveStart, curveStop, cantStart, cantStop, cap, List.find?_nil]
  rw [if_neg (not_not.2 zero)]
  rfl

/-- A record passes exactly where its fields do. -/
theorem badField_none_iff (w : SegmentWire) : badField w = none ↔ ∀ f, f < 8 → passesField w f := by
  simp only [badField_eq_find, List.find?_range_eq_none, Bool.not_eq_true', decide_eq_false_iff_not, not_not]

/-- The ranges of the seven fields (R62). -/
theorem badField_none (w : SegmentWire) :
    badField w = none ↔ -2000000000 ≤ w.start.toInt ∧ w.start.toInt ≤ 2000000000 ∧
      100 ≤ w.length.toNat ∧ w.length.toNat ≤ 500000 ∧ w.curveStart.toInt.natAbs ≤ 20000 ∧
      w.curveStop.toInt.natAbs ≤ 20000 ∧ w.cantStart.toInt.natAbs ≤ 200 ∧ w.cantStop.toInt.natAbs ≤ 200 ∧
      (w.cap = 0xFFFF#16 ∨ w.cap.toNat ≤ 10000) := by
  have field {k : Nat} {P : Prop} (hk : k < 8) : (∀ f, f < 8 → f = k → P) ↔ P :=
    ⟨fun h => h k hk rfl, fun h _ _ _ => h⟩
  simp (disch := decide) only [badField_none_iff, passesField, imp_and, forall_and, field, and_assoc]

/-- The field reported is the first that fails. -/
theorem badField_first {w : SegmentWire} {f : Nat} (last : f ≤ 7) (before : ∀ n, n < f → passesField w n)
    (fails : ¬passesField w f) : badField w = some f := by
  rw [badField_eq_find, List.find?_range_eq_some]
  exact ⟨by simpa using fails, List.mem_range.2 (by omega), fun n hn => by simpa using before n hn⟩

/-- The records pass exactly where each of them does. -/
theorem segmentsFault_none {i : Nat} {records : List SegmentWire} :
    segmentsFault i records = none ↔ ∀ w ∈ records, badField w = none := by
  induction records generalizing i with
  | nil => simp [segmentsFault]
  | cons w rest ih =>
    unfold segmentsFault
    cases h : badField w <;> simp [h, ih]

/-- The record reported is the first with a field that fails. -/
theorem segmentsFault_first {records : List SegmentWire} {i f : Nat} {w : SegmentWire} (k : Nat)
    (at_i : records[i]? = some w) (before : ∀ j x, j < i → records[j]? = some x → badField x = none)
    (fails : badField w = some f) : segmentsFault k records = some (k + i, f) := by
  induction records generalizing i k with
  | nil => cases at_i
  | cons v rest ih =>
    unfold segmentsFault
    cases i with
    | zero =>
      obtain rfl : v = w := Option.some.inj at_i
      rw [fails]; rfl
    | succ i =>
      rw [before 0 v (by omega) rfl]
      refine (ih (k + 1) at_i fun j x hj hx => before (j + 1) x (by omega) hx).trans ?_
      rw [Nat.add_right_comm]; rfl

end Sys2Proof.Machine

namespace Sys2Proof.Machine

open Sys2Proof

/-! ## Routes (R64) -/

/-- The second record begins where the first ends (R64). -/
def Segment.Meets (g h : Segment) : Prop := h.start = g.stop

/-- The check of the model reads the list pair by pair. -/
theorem joined_iff (l : List Segment) : joined l = true ↔ l.IsChain Segment.Meets := by
  induction l using joined.induct with
  | case1 g h rest ih => simp [joined, ih, Segment.Meets]
  | case2 l short =>
    match l, short with
    | [], _ => simp [joined]
    | [g], _ => simp [joined]
    | g :: h :: rest, short => exact absurd rfl (short g h rest)

/-- A list is joined exactly where each record begins where the record in the place before it ends. -/
theorem joined_iff_places (l : List Segment) :
    joined l = true ↔
      ∀ (i : Nat) (g h : Segment), l[i]? = some g → l[i + 1]? = some h → h.start = g.start + g.length := by
  rw [joined_iff, List.isChain_iff_getElem]
  constructor
  · intro chain i g h hg hh
    obtain ⟨-, rfl⟩ := List.getElem?_eq_some_iff.1 hg
    obtain ⟨inside, rfl⟩ := List.getElem?_eq_some_iff.1 hh
    exact chain i inside
  · intro places i inside
    exact places i _ _ (List.getElem?_eq_getElem (by omega)) (List.getElem?_eq_getElem inside)

/-- A route without gaps whose records are not empty (R62, R64). -/
structure Unbroken (l : List Segment) : Prop where
  chain  : l.IsChain Segment.Meets
  filled : ∀ g ∈ l, 1 ≤ g.length

namespace Unbroken

theorem nil : Unbroken [] := ⟨.nil, nofun⟩

theorem tail {g : Segment} {l : List Segment} (h : Unbroken (g :: l)) : Unbroken l :=
  ⟨h.chain.tail, fun x hx => h.filled x (List.mem_cons_of_mem g hx)⟩

theorem suffix {k l : List Segment} (h : Unbroken l) (part : k <:+ l) : Unbroken k :=
  ⟨h.chain.suffix part, fun g hg => h.filled g (part.subset hg)⟩

/-- A record ends before any later record begins, or where it begins. -/
theorem ordered {l : List Segment} (h : Unbroken l) : l.Pairwise (fun a b => a.stop ≤ b.start) := by
  induction l with
  | nil => exact .nil
  | cons g rest ih =>
    have later := ih h.tail
    refine List.pairwise_cons.2 ⟨fun b hb => ?_, later⟩
    cases rest with
    | nil => cases hb
    | cons n rest =>
      have meets : n.start = g.stop := (List.isChain_cons_cons.1 h.chain).1
      have filled := h.filled n (by simp)
      rcases List.mem_cons.1 hb with rfl | hb
      · exact meets.ge
      · have := (List.pairwise_cons.1 later).1 b hb
        unfold Segment.stop at *; omega

/-- Records that join a route where it ends leave it without gaps (R71). -/
theorem append {k l : List Segment} (hk : Unbroken k) (hl : Unbroken l)
    (meet : ∀ g ∈ k.getLast?, ∀ h ∈ l.head?, g.Meets h) : Unbroken (k ++ l) :=
  ⟨hk.chain.append hl.chain meet, fun g hg => (List.mem_append.1 hg).elim (hk.filled g) (hl.filled g)⟩

end Unbroken

/-! ## The cut at X (R78) -/

@[simp] theorem Segment.cutAt_start (g : Segment) (x : Int) : (g.cutAt x).start = g.start := by
  unfold Segment.cutAt; split <;> rfl

/-- A cut keeps the values at the front, and the cap. -/
theorem Segment.cutAt_front (g : Segment) (x : Int) :
    (g.cutAt x).curveStart = g.curveStart ∧ (g.cutAt x).cantStart = g.cantStart ∧ (g.cutAt x).cap = g.cap := by
  unfold Segment.cutAt; split <;> exact ⟨rfl, rfl, rfl⟩

theorem Segment.cutAt_before {g : Segment} {x : Int} (h : g.stop ≤ x) : g.cutAt x = g := if_neg (by omega)

theorem Segment.cutAt_across {g : Segment} {x : Int} (h : x < g.stop) :
    g.cutAt x = { g with length := x - g.start, curveStop := g.curve x, cantStop := g.cant x } := if_pos h

theorem Segment.cutAt_stop (g : Segment) (x : Int) : (g.cutAt x).stop = min g.stop x := by
  by_cases h : x < g.stop
  · rw [cutAt_across h]
    show g.start + (x - g.start) = _
    omega
  · rw [cutAt_before (by omega)]; omega

/-- Where a test that holds of a place holds of every place before it, the places that pass come first. -/
theorem filter_eq_takeWhile {α : Type} {p : α → Bool} {l : List α}
    (h : l.Pairwise (fun a b => p b = true → p a = true)) : l.filter p = l.takeWhile p := by
  induction l with
  | nil => rfl
  | cons a l ih =>
    obtain ⟨first, rest⟩ := List.pairwise_cons.1 h
    cases ha : p a with
    | true => rw [List.filter_cons_of_pos ha, List.takeWhile_cons_of_pos ha, ih rest]
    | false =>
      rw [List.filter_cons_of_neg (by simp [ha]), List.takeWhile_cons_of_neg (by simp [ha]), List.filter_eq_nil_iff]
      exact fun b hb pass => by simp [first b hb pass] at ha

namespace Unbroken

/-- The records that begin before X come first, and the cut keeps their places. -/
theorem cutList_eq {l : List Segment} (h : Unbroken l) (x : Int) :
    cutList x l = (l.takeWhile (fun g => decide (g.start < x))).map (fun g => g.cutAt x) := by
  have before : l.Pairwise (fun a b => decide (b.start < x) = true → decide (a.start < x) = true) :=
    h.ordered.imp_of_mem fun {a b} ha _ stops => by
      have := h.filled a ha
      simp only [Segment.stop, decide_eq_true_eq] at *
      omega
  rw [cutList, filter_eq_takeWhile before]

/-- A cut leaves a route without gaps. -/
theorem cut {l : List Segment} (h : Unbroken l) (x : Int) : Unbroken (cutList x l) := by
  refine ⟨?_, fun c hc => ?_⟩
  · rw [h.cutList_eq x, List.isChain_map]
    have first : (l.takeWhile (fun g => decide (g.start < x))).IsChain Segment.Meets :=
      .left_of_append (l₂ := l.dropWhile (fun g => decide (g.start < x)))
        (by rw [List.takeWhile_append_dropWhile]; exact h.chain)
    refine first.imp_of_mem_imp fun a b _ hb meets => ?_
    have begins : b.start < x := by simpa using List.mem_takeWhile_imp hb
    have ends : b.start = a.stop := meets
    unfold Segment.Meets
    rw [Segment.cutAt_start, Segment.cutAt_stop]
    omega
  · simp only [cutList, List.mem_map, List.mem_filter, decide_eq_true_eq] at hc
    obtain ⟨g, ⟨hg, begins⟩, rfl⟩ := hc
    have filled := h.filled g hg
    have stop := g.cutAt_stop x
    unfold Segment.stop at stop
    rw [Segment.cutAt_start] at stop
    omega

end Unbroken

/-! ## The law of the geometry store, read off the store itself (R64, R67) -/

/-- The law of the geometry store. -/
structure GeoStore.Sound (g : GeoStore) : Prop where
  room   : g.committed.length ≤ Config.committedCapacity
  route  : Unbroken g.committed
  staged : ∀ b, g.batch = some b →
    b.staged.length ≤ Config.stagedCapacity ∧ ∀ x ∈ b.staged, 100 ≤ x.length ∧ x.length ≤ 500000

theorem geometryLaw_iff (s : State) : GeometryLaw s ↔ s.geo.Sound := by
  constructor
  · rintro ⟨room, chain, filled, staged⟩
    exact ⟨room, ⟨(joined_iff _).1 chain, filled⟩, staged⟩
  · rintro ⟨room, ⟨chain, filled⟩, staged⟩
    exact ⟨room, (joined_iff _).2 chain, filled, staged⟩

namespace GeoStore.Sound

theorem of_route {s t : State} (h : s.geo.Sound) (e : t.route = s.route) : t.geo.Sound := by
  simp only [State.route, Prod.mk.injEq] at e
  obtain ⟨-, geo, -⟩ := e
  rwa [geo]

/-- Without records and without a batch there is nothing to ask. -/
theorem cleared (armed : Bool) : GeoStore.Sound { committed := [], batch := none, armed := armed } :=
  ⟨Nat.zero_le _, .nil, nofun⟩

/-- The armed flag plays no part. -/
theorem arm {g : GeoStore} (h : g.Sound) (armed : Bool) : GeoStore.Sound { g with armed := armed } :=
  ⟨h.room, h.route, h.staged⟩

theorem lookAhead {s : State} (h : s.geo.Sound) : (evaluateLookAhead s).geo.Sound := by
  rw [evaluateLookAhead_geo]; exact h.arm _

/-- A list that has no more records, and no gap, in place of the committed one. -/
theorem withCommitted {g : GeoStore} (h : g.Sound) {l : List Segment} (shorter : l.length ≤ g.committed.length)
    (route : Unbroken l) : GeoStore.Sound { g with committed := l } :=
  ⟨shorter.trans h.room, route, h.staged⟩

/-- A release drops records from the front (R74). -/
theorem release {g : GeoStore} (h : g.Sound) (p : Segment → Bool) :
    GeoStore.Sound { g with committed := g.committed.dropWhile p } :=
  h.withCommitted (List.dropWhile_sublist _).length_le (h.route.suffix (List.dropWhile_suffix _))

/-- A cut keeps at most the records that there are (R78). -/
theorem cut {g : GeoStore} (h : g.Sound) (x : Int) : GeoStore.Sound { g with committed := cutList x g.committed } :=
  h.withCommitted ((List.length_map _).le.trans (List.length_filter_le _ _)) (h.route.cut x)

/-- A batch in place of the one that is open. -/
theorem withBatch {g : GeoStore} (h : g.Sound) (b : Batch)
    (staged : b.staged.length ≤ Config.stagedCapacity ∧ ∀ x ∈ b.staged, 100 ≤ x.length ∧ x.length ≤ 500000) :
    GeoStore.Sound { g with batch := some b } :=
  ⟨h.room, h.route, fun c hc => by obtain rfl : b = c := Option.some.inj hc; exact staged⟩

/-- A batch discarded (R72). -/
theorem discard {g : GeoStore} (h : g.Sound) : GeoStore.Sound { g with batch := none } := ⟨h.room, h.route, nofun⟩

end GeoStore.Sound

end Sys2Proof.Machine

namespace Sys2Proof.Machine

open Sys2Proof

/-! ## The checks of CloseBatch (R70) -/

open Classical in
/-- The check named is the first of R70 that fails. -/
theorem batchFault_eq_find (count : Nat) (b : Batch) (g : GeoStore) :
    batchFault count b g = [Detail.count, .start, .gap, .order, .capacity].find?
      (fun d => decide (¬passesClose count b g.committed d)) := by
  have counted : ¬passesClose count b g.committed .count ↔ count ≠ b.staged.length := Iff.rfl
  have start : ¬passesClose count b g.committed .start ↔ b.staged.head?.map Segment.start ≠ some b.declared := by
    simp [passesClose, Option.map_eq_some_iff]
  have gap : ¬passesClose count b g.committed .gap ↔
      g.committedEnd ≠ none ∧ g.committedEnd ≠ some b.declared := by
    unfold passesClose GeoStore.committedEnd
    cases g.committed.getLast? <;> simp [Segment.stop]
  have order : ¬passesClose count b g.committed .order ↔ (!joined b.staged) = true := by
    rw [Bool.not_eq_true', ← Bool.not_eq_true, joined_iff_places]; rfl
  have capacity : ¬passesClose count b g.committed .capacity ↔
      Config.committedCapacity < g.committed.length + b.staged.length := not_le
  simp only [find?_cons_ite, counted, start, gap, order, capacity, List.find?_nil]
  rfl

theorem batchFault_first {count n : Nat} {b : Batch} {g : GeoStore} {d : Detail}
    (place : [Detail.count, .start, .gap, .order, .capacity][n]? = some d)
    (before : ∀ (m : Nat) (e : Detail), m < n → [Detail.count, .start, .gap, .order, .capacity][m]? = some e →
      passesClose count b g.committed e)
    (fails : ¬passesClose count b g.committed d) : batchFault count b g = some d := by
  obtain ⟨inside, held⟩ := List.getElem?_eq_some_iff.1 place
  rw [batchFault_eq_find, List.find?_eq_some_iff_getElem]
  refine ⟨by simpa using fails, n, inside, held, fun m hm => ?_⟩
  simpa using before m _ hm (List.getElem?_eq_getElem (by omega))

/-- A batch passes exactly where its five checks do. -/
theorem batchFault_none {count : Nat} {b : Batch} {g : GeoStore} :
    batchFault count b g = none ↔
      count = b.staged.length ∧ (∃ x, b.staged.head? = some x ∧ x.start = b.declared) ∧
      (∀ x, g.committed.getLast? = some x → x.stop = b.declared) ∧ joined b.staged = true ∧
      g.committed.length + b.staged.length ≤ 256 := by
  simp only [batchFault_eq_find, List.find?_eq_none, joined_iff_places, decide_eq_true_eq, not_not]
  simp [passesClose, Segment.stop]

/-! ## What the blocks leave of the law of the geometry store -/

/-- A sample goes to the ring alone (R88). -/
theorem takeSample_geo (accel : Option Int) (s : State) : (takeSample accel s).geo = s.geo := by
  unfold takeSample
  split
  · dsimp only
    split <;> rfl
  · rfl

namespace GeoStore.Sound

variable {s : State} (h : s.geo.Sound)
include h

/-! ### The requests of the store itself (R68 to R72, R78) -/

theorem handleOpenBatch (tag : Byte) (declared : Word) : (handleOpenBatch tag declared s).geo.Sound := by
  unfold Machine.handleOpenBatch
  split
  · exact h.withBatch _ ⟨Nat.zero_le _, nofun⟩
  · exact h

/-- Records that pass their checks have a length that the law admits (R62). -/
theorem handleAddSegments (tag count : Byte) (records : List SegmentWire) :
    (handleAddSegments tag count records s).geo.Sound := by
  unfold Machine.handleAddSegments
  split
  · exact h
  · next b opened =>
    split
    · exact h
    · split
      · exact h
      · next passed =>
        split
        · exact h
        · next room =>
          obtain ⟨-, staged⟩ := h.staged b opened
          refine h.withBatch { b with staged := b.staged ++ records.map segmentOfWire } ⟨?_, fun x hx => ?_⟩
          · rw [List.length_append, List.length_map]; omega
          · rcases List.mem_append.1 hx with hx | hx
            · exact staged x hx
            · obtain ⟨w, hw, rfl⟩ := List.mem_map.1 hx
              obtain ⟨-, -, low, high, -⟩ := (badField_none w).1 (segmentsFault_none.1 passed w hw)
              exact ⟨Int.ofNat_le.2 low, Int.ofNat_le.2 high⟩

/-- The checks START, GAP, ORDER and CAPACITY are what the law asks of the longer list (R70, R71). -/
theorem commit {b : Batch} {count : Nat} (opened : s.geo.batch = some b) (passed : batchFault count b s.geo = none) :
    GeoStore.Sound { s.geo with committed := s.geo.committed ++ b.staged, batch := none } := by
  obtain ⟨-, ⟨first, head, start⟩, gap, order, capacity⟩ := batchFault_none.1 passed
  obtain ⟨-, staged⟩ := h.staged b opened
  have filled : ∀ x ∈ b.staged, 1 ≤ x.length := fun x hx => by have := (staged x hx).1; omega
  refine ⟨by rw [List.length_append]; exact capacity, h.route.append ⟨(joined_iff _).1 order, filled⟩ ?_, nofun⟩
  intro last hlast y hy
  obtain rfl : first = y := Option.some.inj (head.symm.trans hy)
  exact start.trans (gap last hlast).symm

theorem handleCloseBatch (tag count : Byte) : (handleCloseBatch tag count s).geo.Sound := by
  unfold Machine.handleCloseBatch
  split
  · exact h
  · next b opened =>
    split
    · exact h.discard
    · next passed => exact lookAhead (s := s.setGeo _) (h.commit opened passed)

theorem handleTruncate (tag : Byte) (x : Word) : (handleTruncate tag x s).geo.Sound := by
  unfold Machine.handleTruncate
  dsimp only
  split
  · exact h
  · split
    · exact h
    · split
      · exact h
      · exact lookAhead (s := s.setGeo _) (h.cut x.toInt)

/-! ### The mode controller, the odometer and the car line -/

theorem handleStartRun (tag : Byte) (origin : Word) : (handleStartRun tag origin s).geo.Sound := by
  unfold Machine.handleStartRun
  split
  · exact cleared _
  · exact h

theorem handleResolveCapture (tag : Byte) (number : Half) (x : Word) :
    (handleResolveCapture tag number x s).geo.Sound := by
  unfold Machine.handleResolveCapture
  dsimp only
  split
  · exact h
  · split
    · show (applyFix _ _ s).geo.Sound
      rw [applyFix_eq]
      exact lookAhead (s := fixBase _ _ s) h
    · split
      · split <;> exact h
      · exact h

theorem failTacho (n : TachoName) : (failTacho n s).geo.Sound := by
  rw [failTacho_eq]; exact h

theorem takeSlot : (takeSlot s).geo.Sound := by
  rw [takeSlot_eq]
  split
  · rw [slotInRun_geo]
    exact (h.release _).arm _
  · exact h

theorem acceptHigh : (acceptHigh s).geo.Sound := by
  rcases captureEdge_cases (s.setOdo { s.odo with marker := true, markerCount := 0 }) with
    ⟨-, e⟩ | ⟨-, -, e⟩ | ⟨n, -, -, e⟩ <;> rw [Machine.acceptHigh, e]
  · exact h
  · exact h
  · rw [appendCapture_eq]; exact h

theorem sampleMarker (high : Bool) : (sampleMarker high s).geo.Sound := by
  unfold Machine.sampleMarker
  split
  · exact h
  · split
    · exact h
    · split
      · exact h.acceptHigh
      · exact h

theorem markerRises : (markerRises s).geo.Sound := by
  unfold Machine.markerRises
  split
  · exact h
  · exact h.acceptHigh

theorem goodStat (a : Nat) (angle : Int) (cond : NodeCond) (flags : NodeFlags) (accel : Option Int) :
    (goodStat a angle cond flags accel s).geo.Sound := by
  have heard (nodes : List NodeLink) :
      (takeStat (a - 1) (clampAbs angle Config.angleLimit) cond flags
        (s.setLine { s.line with nodes := nodes })).geo.Sound :=
    of_route (s := s.setLine { s.line with nodes := nodes }) h (takeStat_route _ _ _ _ _)
  unfold Machine.goodStat
  split
  · dsimp only
    split
    · rw [takeSample_geo]; exact heard _
    · exact heard _
  · exact h

theorem hearStat (address : Nat) (angle : Int) (cond : NodeCond) (flags : NodeFlags) (accel : Option Int) :
    (hearStat address angle cond flags accel s).geo.Sound := by
  unfold Machine.hearStat
  split
  · exact (h.goodStat _ _ _ _ _).of_route (askAfter_route _ _)
  · exact h.of_route (noReply_route s)

/-! ### Every part of a command -/

/-- An owner keeps the law of the geometry store. -/
theorem serve (tag : Byte) (r : Request) : (serve tag r s).geo.Sound := by
  cases r with
  | identify => exact h
  | queryStatus => exact h
  | commission => exact h.of_route (handleCommission_route _ _)
  | returnToSetup => exact h.of_route (handleReturnToSetup_route _ _)
  | startRun origin => exact h.handleStartRun _ _
  | endRun => exact cleared _
  | enableTilt => exact h.of_route (handleEnableTilt_route _ _)
  | disableTilt => exact h
  | resumeTilt => exact h.of_route (handleResumeTilt_route _ _)
  | reset => exact h
  | setParameters values => exact h.of_route (handleSetParameters_route _ _ _)
  | getParameters => exact h
  | setFormation count r1 r2 r3 records => exact h.of_route (handleSetFormation_route _ _ _ _)
  | getFormation => exact h
  | resolveCapture number r2 r3 x => exact h.handleResolveCapture _ _ _
  | queryPosition => exact h
  | openBatch declared => exact h.handleOpenBatch _ _
  | addSegments count r1 r2 r3 records => exact h.handleAddSegments _ _ _
  | closeBatch count => exact h.handleCloseBatch _ _
  | truncateGeometry x => exact h.handleTruncate _ _
  | queryGeometry => exact h
  | queryCar car => exact h.of_route (handleQueryCar_route _ _ _)
  | clearCarFault car => exact h.of_route (handleClearCarFault_route _ _ _)
  | rollCall => exact h.of_route (handleRollCall_route _ _)
  | nodeTransfer car direction item r3 value => exact h.of_route (handleNodeTransfer_route _ _ _ _ _ _)
  | readAlerts => exact h
  | setReporting period => exact h

/-- An event keeps it. -/
theorem event {c : Instr} {f : State → State} (e : eventOf c = some f) : (f s).geo.Sound := by
  cases c <;> simp only [eventOf, Option.some.injEq, reduceCtorEq] at e <;> subst e
  case inhibitSample asserted => exact h.of_route (sampleInhibit_route _ _)
  case inhibitAsserted => exact h.of_route (inhibitAsserted_route _)
  case inhibitReleased => exact h.of_route (inhibitReleased_route _)
  case markerSample high => exact h.sampleMarker _
  case markerRisingEdge => exact h.markerRises
  case pulseDecode channel levels => exact h
  case odometrySlot => exact h.takeSlot
  case tachoFailed channel => exact h.failTacho _
  case plannerComputation => exact h.of_route (computePlan_route _)
  case telemetryCountdown => exact h.of_route (hearReport_route _)
  case targetListArrival => exact h.of_route (takeTargets_route _)
  case lineCycle => exact h.of_route (startCycle_route _)
  case frameEcho isMatch => exact h.of_route (hearEcho_route _ _)
  case lineHalt => exact h.of_route (haltCarrying_route _)
  case stat => exact h.hearStat _ _ _ _ _
  case tracking car => exact h.of_route (testTracking_route _ _)
  case replySilence => exact h.of_route (noReply_route _)
  case nodeLost car => exact h.of_route (hearNodeLost_route _ _)
  case mrsp => exact h.of_route (hearMrsp_route _ _ _ _)
  case claimRound outcome => exact h.of_route (hearRound_route _ _)
  case musterEnd => exact h.of_route (hearMusterEnd_route _)
  case contentionKey key => exact h.of_route (hearKey_route _ _)
  case alrt => exact h.of_route (hearAlrt_route _ _ _ _)

end GeoStore.Sound

/-- Settles O16: opening, staging, committing, releasing and cutting keep the store's law, a reset and the ends of a
run leave it empty, and nothing else touches it. -/
theorem stepsKeepTheRouteGapFree : Obligations.StepsKeepTheRouteGapFree := by
  intro s t law e
  refine (geometryLaw_iff t).2 (KeptByParts.step (P := fun u => u.geo.Sound)
    { queue := fun _ _ h => h
      reset := fun _ _ _ _ => .cleared _
      held := fun _ _ => .cleared _
      link := fun _ _ h => h
      reported := fun _ h => h
      serve := fun tag r _ _ _ _ h => h.serve tag r
      event := fun _ _ _ event h => h.event event } ((geometryLaw_iff s).1 law) e)

end Sys2Proof.Machine

namespace Sys2Proof.Machine

open Sys2Proof

/-! ## OpenBatch and AddSegments (R67 to R69) -/

/-- A batch is opened in place of the one before (R68). -/
theorem handleOpenBatch_accept (tag : Byte) {x : Word} (s : State) (inside : inRoute x.toInt = true) :
    handleOpenBatch tag x s =
      { s with geo := { s.geo with batch := some { declared := x.toInt, staged := [] } },
               link := { s.link with
                         reply := some (okFrame 0x20#8 tag
                           [yesNo s.geo.batch.isSome, u8 s.geo.stagedCount, 0, 0]) } } := if_pos inside

theorem handleOpenBatch_badValue (tag : Byte) {x : Word} (s : State) (out : inRoute x.toInt = false) :
    handleOpenBatch tag x s = s.respond { kind := 0xA0#8, tag := tag, body := [3, 0, 0, 0] } :=
  if_neg (by simp [out])

theorem handleAddSegments_noBatch (tag count : Byte) (records : List SegmentWire) {s : State}
    (closed : s.geo.batch = none) :
    handleAddSegments tag count records s = s.respond { kind := 0xA1#8, tag := tag, body := [7, 5, 0, 0] } := by
  unfold handleAddSegments
  rw [closed]; rfl

/-- One request carries one to eight records (R69). -/
theorem segmentCount_admitted {count : Byte} (inside : 1 ≤ count.toNat ∧ count.toNat ≤ 8) :
    ¬(count.toNat = 0 ∨ Config.segmentsPerRequest < count.toNat) := by
  simp only [Config.segmentsPerRequest]; omega

section
variable (tag : Byte) {count : Byte} {records : List SegmentWire} {s : State} {b : Batch}
  (opened : s.geo.batch = some b)
include opened

/-- A count that one request cannot carry is refused BAD_VALUE (R69). -/
theorem handleAddSegments_badCount (outside : count.toNat = 0 ∨ 8 < count.toNat) :
    handleAddSegments tag count records s = s.respond { kind := 0xA1#8, tag := tag, body := [3, 0, 0, 0] } := by
  unfold handleAddSegments
  rw [opened]
  exact if_pos outside

variable (inside : 1 ≤ count.toNat ∧ count.toNat ≤ 8)
include inside

/-- The first record with a field out of range is reported with the field (R69, R189). -/
theorem handleAddSegments_badField {i f : Nat} (fault : segmentsFault 0 records = some (i, f)) :
    handleAddSegments tag count records s =
      s.respond { kind := 0xA1#8, tag := tag, body := [3, 22] ++ u16 (i + 256 * f) } := by
  unfold handleAddSegments
  rw [opened]
  dsimp only
  rw [if_neg (segmentCount_admitted inside), fault]
  exact State.refuseAt_respond _ _ _ _ _ _

variable (passed : segmentsFault 0 records = none)
include passed

theorem handleAddSegments_full (full : 32 < b.staged.length + records.length) :
    handleAddSegments tag count records s = s.respond { kind := 0xA1#8, tag := tag, body := [6, 0, 0, 0] } := by
  unfold handleAddSegments
  rw [opened]
  dsimp only
  rw [if_neg (segmentCount_admitted inside), passed]
  exact if_pos full

/-- The records are staged whole (R69). -/
theorem handleAddSegments_accept (room : b.staged.length + records.length ≤ 32) :
    handleAddSegments tag count records s =
      { s with geo := { s.geo with batch := some { b with staged := b.staged ++ records.map segmentOfWire } },
               link := { s.link with
                         reply := some (okFrame 0x21#8 tag [u8 (b.staged.length + records.length), 0, 0, 0]) } } := by
  have length : (b.staged ++ records.map segmentOfWire).length = b.staged.length + records.length := by simp
  unfold handleAddSegments
  rw [opened]
  dsimp only
  rw [if_neg (segmentCount_admitted inside), passed]
  dsimp only
  rw [if_neg (by simpa only [Config.stagedCapacity, not_lt] using room), length]
  rfl

end

/-- Settles O34: which record and field is reported, and what each of the two requests does in a run. -/
theorem batchesAreOpenedAndStaged : Obligations.BatchesAreOpenedAndStaged := by
  refine ⟨fun records i f w at_i _ last earlier before fails => ?_, fun records => ?_, fun s tag free run =>
    ⟨fun x inside => ?_, fun x out => ?_, fun count records length zero => ?_⟩⟩
  · have passed : ∀ j x, j < i → records[j]? = some x → badField x = none := fun j x hj hx =>
      (badField_none_iff x).2 fun n _ => earlier j n x hj hx
    rw [segmentsFault_first 0 at_i passed (badField_first last before fails), Nat.zero_add]
  · simp only [segmentsFault_none, badField_none]
  · rw [exec_served (c := .openBatch tag x) free rfl rfl run rfl, serve, handleOpenBatch_accept tag s inside]
  · rw [exec_served (c := .openBatch tag x) free rfl rfl run rfl, serve, handleOpenBatch_badValue tag s out]
  · rw [exec_served (c := .addSegments tag count 0#8 0#8 0#8 records) free rfl (beq_iff_eq.2 length) run zero, serve,
      length]
    refine ⟨fun closed => ?_, fun b opened => ⟨fun outside => ?_, fun inside =>
      ⟨fun i f fault => ?_, fun passed full => ?_, fun passed room => ?_⟩⟩⟩
    · rw [handleAddSegments_noBatch tag count records closed]
    · rw [handleAddSegments_badCount tag opened outside]
    · rw [handleAddSegments_badField tag opened inside fault]
    · rw [handleAddSegments_full tag opened inside passed (length ▸ full)]
    · rw [handleAddSegments_accept tag opened inside passed (length ▸ room), length]

end Sys2Proof.Machine

namespace Sys2Proof.Machine

open Sys2Proof

/-! ## CloseBatch (R70 to R72, R80, R81) -/

section
variable {s : State}

theorem evaluateLookAhead_warns (armed : s.geo.armed = true) (short : lookAhead s < s.params.lookLow) :
    evaluateLookAhead s = ({ s with geo := { s.geo with armed := false } } : State).raise .geometry 1#16 :=
  (if_pos armed).trans (if_pos short)

theorem evaluateLookAhead_armed (armed : s.geo.armed = true) (long : (s.params.lookLow : Int) ≤ lookAhead s) :
    evaluateLookAhead s = s := (if_pos armed).trans (if_neg (not_lt.2 long))

theorem evaluateLookAhead_arms (disarmed : s.geo.armed = false) (long : (s.params.lookHigh : Int) < lookAhead s) :
    evaluateLookAhead s = { s with geo := { s.geo with armed := true } } :=
  (if_neg (by simp [disarmed])).trans (if_pos long)

theorem evaluateLookAhead_disarmed (disarmed : s.geo.armed = false) (short : lookAhead s ≤ s.params.lookHigh) :
    evaluateLookAhead s = s := (if_neg (by simp [disarmed])).trans (if_neg (not_lt.2 short))

end

theorem handleCloseBatch_noBatch (tag count : Byte) {s : State} (closed : s.geo.batch = none) :
    handleCloseBatch tag count s = s.respond { kind := 0xA2#8, tag := tag, body := [7, 5, 0, 0] } := by
  unfold handleCloseBatch
  rw [closed]; rfl

section
variable (tag : Byte) {count : Byte} {s : State} {b : Batch} (opened : s.geo.batch = some b)
include opened

/-- A batch that fails a check is discarded (R72). -/
theorem handleCloseBatch_discard {d : Detail} (fault : batchFault count.toNat b s.geo = some d) :
    handleCloseBatch tag count s =
      { s with geo := { s.geo with batch := none },
               link := { s.link with
                         reply := some { kind := 0xA2#8, tag := tag,
                                         body := [7, detailByte d, 0, 0, u8 b.staged.length, 0, 0, 0] } } } := by
  unfold handleCloseBatch
  rw [opened]
  dsimp only
  rw [fault]; rfl

/-- A batch that passes is committed whole; its last record is then the last of the route (R71). -/
theorem handleCloseBatch_commit (passed : batchFault count.toNat b s.geo = none) :
    handleCloseBatch tag count s =
      (evaluateLookAhead
          { s with geo := { s.geo with committed := s.geo.committed ++ b.staged, batch := none } }).respond
        (okFrame 0x22#8 tag
          ([u8 b.staged.length, 0] ++ u16 (256 - (s.geo.committed.length + b.staged.length)) ++
            i32 ((b.staged.getLast?.map Segment.stop).getD 0))) := by
  obtain ⟨-, ⟨first, head, -⟩, -⟩ := batchFault_none.1 passed
  have last : (s.geo.committed ++ b.staged).getLast? = b.staged.getLast? := by
    have nonempty : b.staged.getLast?.isSome = true := by
      rw [List.getLast?_isSome]; rintro empty; rw [empty] at head; cases head
    rw [List.getLast?_append, Option.or_of_isSome nonempty]
  unfold handleCloseBatch
  rw [opened]
  dsimp only
  rw [passed]
  dsimp only [State.accept]
  rw [evaluateLookAhead_geo, State.setGeo_geo, GeoStore.freeCount, GeoStore.committedEnd]
  dsimp only
  rw [last, List.length_append]
  rfl

end

/-- Settles O35: the four outcomes of a look-ahead, the checks of R70 and what each outcome of them does. -/
theorem batchesCommitWholeOrNotAtAll : Obligations.BatchesCommitWholeOrNotAtAll := by
  refine ⟨fun s => ⟨lookAhead_eq s, evaluateLookAhead_warns, evaluateLookAhead_armed, evaluateLookAhead_arms,
    evaluateLookAhead_disarmed⟩, fun s tag count free run => ?_⟩
  rw [exec_served (c := .closeBatch tag count) free rfl rfl run rfl, serve]
  refine ⟨fun closed => ?_, fun b opened => ⟨batchFault_none, fun n d => batchFault_first, fun d fault => ?_,
    fun passed => ?_⟩⟩
  · rw [handleCloseBatch_noBatch tag count closed]
  · rw [handleCloseBatch_discard tag opened fault]
  · rw [handleCloseBatch_commit tag opened passed]

end Sys2Proof.Machine

namespace Sys2Proof.Machine

open Sys2Proof

/-! ## Coverage of positions (R65, R78) -/

/-- A position is not covered exactly where no record of the route covers it (R65). -/
theorem GeoStore.at_none {g : GeoStore} {p : Int} :
    g.at p = none ↔ ∀ x ∈ g.committed, ¬(x.start ≤ p ∧ p < x.stop) := by
  simp only [GeoStore.at, List.find?_eq_none, Segment.covers, decide_eq_true_eq]

/-- A cut leaves the coverage before X and ends it there (R78). -/
theorem GeoStore.at_cutList (g : GeoStore) (x p : Int) :
    ({ g with committed := cutList x g.committed } : GeoStore).at p = none ↔ g.at p = none ∨ x ≤ p := by
  simp only [GeoStore.at_none, cutList, List.forall_mem_map, List.mem_filter, decide_eq_true_eq, and_imp,
    Segment.cutAt_start, Segment.cutAt_stop, lt_min_iff, not_and]
  constructor
  · intro bare
    refine or_iff_not_imp_right.2 fun before c hc starts stops => ?_
    exact bare c hc (by omega) starts stops (by omega)
  · rintro (bare | beyond) c hc - starts stops
    · exact absurd stops (bare c hc starts)
    · omega

theorem cutList_length (x : Int) (l : List Segment) :
    (cutList x l).length = l.countP (fun g => decide (g.start < x)) := by
  rw [cutList, List.length_map, List.countP_eq_length_filter]

/-- The record in a place of the cut route is the cut of the record in that place of the route. -/
theorem Unbroken.cutList_place {l : List Segment} (h : Unbroken l) {x : Int} {i : Nat} {g c : Segment}
    (hg : l[i]? = some g) (hc : (cutList x l)[i]? = some c) : c = g.cutAt x := by
  rw [h.cutList_eq, List.getElem?_map, Option.map_eq_some_iff] at hc
  obtain ⟨k, hk, rfl⟩ := hc
  obtain ⟨inside, rfl⟩ := List.getElem?_eq_some_iff.1 hk
  have place := List.prefix_iff_getElem?.1 (List.takeWhile_prefix _) i inside
  rw [Option.some.inj (hg.symm.trans place)]

/-! ## TruncateGeometry (R76 to R78) -/

section
variable (tag : Byte) {x : Word} (s : State)

theorem handleTruncate_badValue (out : inRoute x.toInt = false) :
    handleTruncate tag x s = s.respond { kind := 0xA3#8, tag := tag, body := [3, 0, 0, 0] } :=
  if_pos (by simp [out])

variable {s} (inside : inRoute x.toInt = true)
include inside

theorem handleTruncate_busy (opened : s.geo.batch ≠ none) :
    handleTruncate tag x s = s.respond { kind := 0xA3#8, tag := tag, body := [5, 0, 0, 0] } :=
  (if_neg (by simp [inside])).trans (if_pos (Option.isSome_iff_ne_none.2 opened))

variable (closed : s.geo.batch = none)
include closed

theorem handleTruncate_protected (short : x.toInt < protectedLimit s) :
    handleTruncate tag x s =
      s.respond { kind := 0xA3#8, tag := tag, body := [7, 11, 0, 0] ++ i32 (protectedLimit s) } :=
  (if_neg (by simp [inside])).trans ((if_neg (by simp [closed])).trans (if_pos short))

/-- The bytes that answer an accepted cut, which leaves the list l (R191). -/
def cutBytes (x : Int) (before l : List Segment) : List Byte :=
  u16 (before.countP (fun g => decide (x ≤ g.start))) ++
    [yesNo (before.any (fun g => decide (g.start < x ∧ x < g.stop))), yesNo (l.getLast?.map Segment.stop).isSome] ++
    i32 ((l.getLast?.map Segment.stop).getD 0) ++ u16 (256 - l.length) ++ reserved 2

/-- Beyond the protected limit the route is cut (R78). -/
theorem handleTruncate_accept (beyond : protectedLimit s ≤ x.toInt) :
    handleTruncate tag x s =
      (evaluateLookAhead { s with geo := { s.geo with committed := cutList x.toInt s.geo.committed } }).respond
        (okFrame 0x23#8 tag (cutBytes x.toInt s.geo.committed (cutList x.toInt s.geo.committed))) := by
  refine (if_neg (by simp [inside])).trans ((if_neg (by simp [closed])).trans ((if_neg (by omega)).trans ?_))
  dsimp only [State.accept]
  rw [evaluateLookAhead_geo, State.setGeo_geo]
  rfl

end

/-- The fields of the answer to a cut. -/
theorem cutBytes_fields (tag : Byte) (x : Int) {before l : List Segment} (most : before.length ≤ 65535) :
    let body := (okFrame 0x23#8 tag (cutBytes x before l)).body
    natAt 2 4 body = before.countP (fun g => decide (x ≤ g.start)) ∧
    (natAt 1 6 body = 1 ↔ ∃ g ∈ before, g.start < x ∧ x < g.stop) ∧ (natAt 1 7 body = 1 ↔ l ≠ []) ∧
    intAt 4 8 body = saturatePos ((l.getLast?.map Segment.stop).getD 0) ∧ natAt 2 12 body = 256 - l.length := by
  have removed : before.countP (fun g => decide (x ≤ g.start)) ≤ 65535 := List.countP_le_length.trans most
  have room : 256 - l.length ≤ 65535 := (Nat.sub_le _ _).trans (by decide)
  have across : before.any (fun g => decide (g.start < x ∧ x < g.stop)) = true ↔
      ∃ g ∈ before, g.start < x ∧ x < g.stop := by simp only [List.any_eq_true, decide_eq_true_eq]
  have held : (l.getLast?.map Segment.stop).isSome = true ↔ l ≠ [] := by simp
  simp only [okFrame_body, cutBytes, List.append_assoc, List.cons_append, List.nil_append]
  refine ⟨?_, ?_, ?_, ?_, ?_⟩
  · simp only [natAt_header, natAt_u16 removed]
  · simp only [natAt_header, natAt_behind_u16, natAt_first, yesNo_eq_one, across]
  · simp only [natAt_header, natAt_behind_u16, natAt_cons, natAt_first, yesNo_eq_one, held]
  · simp only [intAt_header, intAt_behind_u16, intAt_cons, intAt_i32]
  · simp only [natAt_header, natAt_behind_u16, natAt_cons, natAt_behind_i32, natAt_u16 room]

/-- Settles O36: the refusals in their order, and the cut route read place by place, with its answer. -/
theorem truncationCutsTheRouteAtX : Obligations.TruncationCutsTheRouteAtX := by
  intro s tag x free run
  rw [exec_served (c := .truncateGeometry tag x) free rfl rfl run rfl, serve]
  refine ⟨fun out => ?_, fun inside opened => ?_, fun inside closed short => ?_, fun inside closed law beyond => ?_⟩
  · rw [handleTruncate_badValue tag s out]
  · rw [handleTruncate_busy tag inside opened]
  · rw [handleTruncate_protected tag inside closed short]; rfl
  · obtain ⟨most, route, -⟩ := (geometryLaw_iff s).1 law
    obtain ⟨removed, across, held, stop, room⟩ := cutBytes_fields tag x.toInt
      (l := cutList x.toInt s.geo.committed) (most.trans (by decide))
    refine ⟨cutList x.toInt s.geo.committed, _, _, by rw [handleTruncate_accept tag inside closed beyond], rfl,
      cutList_length _ _, fun i g c hg hc => ?_, fun p => s.geo.at_cutList x.toInt p, rfl, rfl, rfl, rfl, removed,
      across, held, stop, room⟩
    obtain rfl := route.cutList_place hg hc
    obtain ⟨curve, cant, cap⟩ := g.cutAt_front x.toInt
    refine ⟨g.cutAt_start _, curve, cant, cap, Segment.cutAt_before, fun ends => ⟨?_, ?_, ?_⟩⟩
    · rw [Segment.cutAt_stop, min_eq_right ends.le]
    · rw [Segment.cutAt_across ends]
    · rw [Segment.cutAt_across ends]

end Sys2Proof.Machine

namespace Sys2Proof.Machine

open Sys2Proof

/-! ## Rounding and truncation (conventions of 00_scope.md) -/

/-- A rounded quotient of a number that is not negative, as a division with remainder. -/
theorem rounded_nonneg {n d : Int} (hn : 0 ≤ n) (hd : 0 < d) :
    ∃ r, 0 ≤ r ∧ r < 2 * d ∧ 2 * (rounded n d * d) + r = 2 * n + d := by
  refine ⟨(2 * n + d) % (2 * d), Int.emod_nonneg _ (by omega), Int.emod_lt_of_pos _ (by omega), ?_⟩
  rw [rounded, if_pos hn]
  linear_combination Int.emod_add_mul_ediv (2 * n + d) (2 * d)

/-- Rounding is the same on both sides of 0. -/
theorem rounded_neg {n : Int} (d : Int) (hn : n < 0) : rounded n d = -rounded (-n) d := by
  rw [rounded, rounded, if_neg (by omega), if_pos (by omega)]

/-- The model's rounding is to the nearest, a half away from zero. -/
theorem rounded_isRounded (n : Int) {d : Int} (hd : 0 < d) : IsRounded (rounded n d) n d := by
  unfold IsRounded
  by_cases hn : 0 ≤ n
  · obtain ⟨r, low, high, split⟩ := rounded_nonneg hn hd
    generalize rounded n d * d = p at *
    omega
  · obtain ⟨r, low, high, split⟩ := rounded_nonneg (n := -n) (by omega) hd
    rw [rounded_neg d (by omega), neg_mul]
    generalize rounded (-n) d * d = p at *
    omega

/-- The model's truncation is toward zero. -/
theorem truncated_isTruncated (n : Int) {d : Int} (hd : 0 < d) : IsTruncated (truncated n d) n d := by
  have toward {m : Int} (hm : 0 ≤ m) : 0 ≤ truncated m d * d ∧ truncated m d * d ≤ m ∧ m < truncated m d * d + d := by
    rw [truncated, Int.tdiv_eq_ediv_of_nonneg hm]
    have split := Int.emod_add_ediv_mul m d
    have low := Int.emod_nonneg m hd.ne'
    have high := Int.emod_lt_of_pos m hd
    exact ⟨mul_nonneg (Int.ediv_nonneg hm hd.le) hd.le, by omega, by omega⟩
  unfold IsTruncated
  by_cases hn : 0 ≤ n
  · obtain ⟨zero, low, high⟩ := toward hn
    exact ⟨by omega, by omega, mul_nonneg zero hn⟩
  · obtain ⟨zero, low, high⟩ := toward (m := -n) (by omega)
    have mirror : truncated n d * d = -(truncated (-n) d * d) := by
      rw [truncated, truncated, Int.neg_tdiv, neg_mul, neg_neg]
    rw [mirror]
    exact ⟨by omega, by omega, mul_nonneg_of_nonpos_of_nonpos (by omega) (by omega)⟩

/-- A clamp to ±m is no further from 0 than what it clamps, nor than m. -/
theorem clampAbs_natAbs_le_both {m : Int} (x : Int) (hm : 0 ≤ m) :
    (clampAbs x m).natAbs ≤ x.natAbs ∧ (clampAbs x m).natAbs ≤ m.natAbs := by
  unfold clampAbs clamp
  split
  · omega
  · split <;> omega

/-! ## The predictive and the reactive angle (R106 to R110) -/

theorem tiltAngle_natAbs_le (s : State) (share : Nat) (a : Int) : (tiltAngle s share a).natAbs ≤ s.params.thetaMax :=
  clampAbs_natAbs_le _ _

/-- An angle clamped to the smaller of two caps lies within either, and no further from 0 than it was (R109). -/
theorem applyCap_natAbs_le {x y : Option Int} (t : Int) (hx : ∀ m, x = some m → 0 ≤ m) (hy : ∀ m, y = some m → 0 ≤ m) :
    (applyCap (smallerCap x y) t).natAbs ≤ t.natAbs ∧
    (∀ m, x = some m → (applyCap (smallerCap x y) t).natAbs ≤ m.natAbs) ∧
    ∀ m, y = some m → (applyCap (smallerCap x y) t).natAbs ≤ m.natAbs := by
  match x, y with
  | none, none => exact ⟨le_rfl, nofun, nofun⟩
  | some a, none =>
    obtain ⟨nearer, capped⟩ := clampAbs_natAbs_le_both t (hx a rfl)
    exact ⟨nearer, by rintro m ⟨⟩; exact capped, nofun⟩
  | none, some b =>
    obtain ⟨nearer, capped⟩ := clampAbs_natAbs_le_both t (hy b rfl)
    exact ⟨nearer, nofun, by rintro m ⟨⟩; exact capped⟩
  | some a, some b =>
    have ha := hx a rfl
    have hb := hy b rfl
    obtain ⟨nearer, capped⟩ := clampAbs_natAbs_le_both t (le_min ha hb)
    refine ⟨nearer, ?_, ?_⟩ <;> rintro m ⟨⟩ <;> exact capped.trans (by omega)

/-- A predictive target lies within thetaMax and within the cap of either segment (R108, R109). -/
theorem predTarget_bounds (s : State) (pf pr : Int) (gf gr : Segment) (front : ∀ x, gf.cap = some x → 0 ≤ x)
    (rear : ∀ x, gr.cap = some x → 0 ≤ x) :
    (predTarget s pf pr gf gr).natAbs ≤ s.params.thetaMax ∧
    (∀ m, gf.cap = some m → (predTarget s pf pr gf gr).natAbs ≤ m.natAbs) ∧
    (∀ m, gr.cap = some m → (predTarget s pf pr gf gr).natAbs ≤ m.natAbs) := by
  obtain ⟨nearer, capped⟩ := applyCap_natAbs_le (tiltAngle s s.params.compPredictive
    (lateral s (bogieMean (gf.curve pf) (gr.curve pr)) (bogieMean (gf.cant pf) (gr.cant pr)))) front rear
  exact ⟨nearer.trans (tiltAngle_natAbs_le _ _ _), capped⟩

/-- The angle before the caps, and the cap that is used (R106 to R109). -/
theorem predTarget_eq (s : State) (pf pr : Int) (gf gr : Segment) (k h a angle : Int)
    (curve : k = truncated (gf.curve pf + gr.curve pr) 2) (cant : h = truncated (gf.cant pf + gr.cant pr) 2)
    (felt : a = clamp (rounded ((s.odo.v : Int) ^ 2 * k) 10000000 - rounded (9807 * h) s.params.trackBase) (-4000) 4000)
    (tilt : angle =
      clamp (rounded (s.params.compPredictive * a * 57296) 9807000) (-s.params.thetaMax) s.params.thetaMax) :
    predTarget s pf pr gf gr = applyCap (smallerCap gf.cap gr.cap) angle := by
  rw [tilt, felt, curve, cant, pow_two]
  rfl

/-! ## The sensing car and the mean it gives (R93, R103) -/

/-- Without a sensing car none is bound. -/
theorem sensingBound_absent {s : State} (absent : ∀ c ∈ s.cars, c.sensing = false) : sensingBound s = false := by
  rw [sensingBound, sensingCar, List.findIdx?_eq_none_iff.2 absent]
  rfl

/-- The one sensing car is the car asked about. -/
theorem sensingBound_only {s : State} {k : Nat} {c : Car} (place : s.cars[k]? = some c) (sensing : c.sensing = true)
    (only : ∀ j d, s.cars[j]? = some d → d.sensing = true → j = k) : sensingBound s = isBound s k := by
  obtain ⟨inside, rfl⟩ := List.getElem?_eq_some_iff.1 place
  have found : sensingCar s = some k := List.findIdx?_eq_some_iff_getElem.2
    ⟨inside, sensing, fun j hj h => by
      have := only j _ (List.getElem?_eq_getElem (by omega)) h
      omega⟩
  rw [sensingBound, found]
  rfl

/-- The mean over the samples between the window's two ends, the query held at the newest sample (R93). -/
theorem meanAt_eq {ring felt : List Sample} {q held window : Int} (empty : ring = [] → held = q)
    (newest : ∀ y, ring.getLast? = some y → held = min q y.position)
    (within : felt = ring.filter (fun x => decide (held - window ≤ x.position ∧ x.position ≤ held))) :
    meanAt q window ring =
      if felt = [] then none else some (truncated (felt.map Sample.accel).sum felt.length) := by
  subst within
  unfold meanAt newestPosition
  cases h : ring.getLast? with
  | none =>
    rw [empty (List.getLast?_eq_none_iff.1 h)]
    simp only [Option.map_none, List.map_eq_nil_iff, List.length_map]
  | some y =>
    have asked : (if y.position < q then y.position else q) = held := by
      rw [newest y h]
      split <;> omega
    simp only [Option.map_some, asked, List.map_eq_nil_iff, List.length_map]

/-! ## The gangway envelope (R112 to R114) -/

/-- A car that is not FOLLOWING is pinned, RETURNING at its set-point and any other at 0 (R113). -/
theorem pinnedAngle_eq_some {c : Channel} {a : Int} :
    pinnedAngle c = some a ↔ c.state ≠ .following ∧ a = (if c.state = .returning then c.theta else 0) := by
  unfold pinnedAngle
  cases c.state <;> simp [eq_comm]

theorem mem_pinnedCars {s : State} {j : Nat} {a : Int} :
    (j, a) ∈ pinnedCars s ↔
      j < s.cars.length ∧ ∃ c, s.chans[j]? = some c ∧ c.state ≠ .following ∧
        a = (if c.state = .returning then c.theta else 0) := by
  simp [pinnedCars, carIndexes, Option.bind_eq_some_iff, pinnedAngle_eq_some]

/-- What the gangways between cars k and j allow their angles to differ by (R114). -/
def gangwayReach (s : State) (k j : Nat) : Int := s.params.adjacentMax * gangways k j

theorem gangwayReach_nonneg (s : State) (k j : Nat) : 0 ≤ gangwayReach s k j :=
  mul_nonneg (Int.natCast_nonneg _) (Int.natCast_nonneg _)

/-- An angle is within reach of a pinned car exactly where it lies between the car's two bounds. -/
theorem within_reach_iff (s : State) (k j : Nat) (x a : Int) :
    (x - a).natAbs ≤ s.params.adjacentMax * (gangways k j).natAbs ↔
      a - gangwayReach s k j ≤ x ∧ x ≤ a + gangwayReach s k j := by
  have reach : gangwayReach s k j = ((s.params.adjacentMax * (gangways k j).natAbs : Nat) : Int) := by
    rw [gangwayReach, gangways, Int.natAbs_natCast, Nat.cast_mul]
  omega

/-- The lower bounds that the pinned cars set to car k (R114). -/
def lowerBounds (s : State) (k : Nat) : List Int := (pinnedCars s).map (fun x => x.2 - gangwayReach s k x.1)

/-- The upper bounds. -/
def upperBounds (s : State) (k : Nat) : List Int := (pinnedCars s).map (fun x => x.2 + gangwayReach s k x.1)

theorem lowBound_eq_max (s : State) (k : Nat) :
    lowBound k s.params.adjacentMax (pinnedCars s) = (lowerBounds s k).max? := by
  unfold lowerBounds
  induction pinnedCars s with
  | nil => rfl
  | cons x rest ih =>
    rw [List.map_cons, List.max?_cons, ← ih]
    show some _ = some _
    cases lowBound k s.params.adjacentMax rest <;> rfl

theorem highBound_eq_min (s : State) (k : Nat) :
    highBound k s.params.adjacentMax (pinnedCars s) = (upperBounds s k).min? := by
  unfold upperBounds
  induction pinnedCars s with
  | nil => rfl
  | cons x rest ih =>
    rw [List.map_cons, List.min?_cons, ← ih]
    show some _ = some _
    cases highBound k s.params.adjacentMax rest <;> rfl

theorem lowerBounds_max {s : State} {k : Nat} {low : Int} :
    (lowerBounds s k).max? = some low ↔ (∃ j a, (j, a) ∈ pinnedCars s ∧ low = a - gangwayReach s k j) ∧
      ∀ j a, (j, a) ∈ pinnedCars s → a - gangwayReach s k j ≤ low := by
  rw [List.max?_eq_some_iff, lowerBounds, List.forall_mem_map, List.mem_map]
  simp only [Prod.exists, Prod.forall, eq_comm (b := low)]

theorem upperBounds_min {s : State} {k : Nat} {high : Int} :
    (upperBounds s k).min? = some high ↔ (∃ j a, (j, a) ∈ pinnedCars s ∧ high = a + gangwayReach s k j) ∧
      ∀ j a, (j, a) ∈ pinnedCars s → high ≤ a + gangwayReach s k j := by
  rw [List.min?_eq_some_iff, upperBounds, List.forall_mem_map, List.mem_map]
  simp only [Prod.exists, Prod.forall, eq_comm (b := high)]

/-- The envelope, given its two bounds. -/
theorem envelope_eq {s : State} {k : Nat} {low high : Int} (t : Int) (hl : (lowerBounds s k).max? = some low)
    (hh : (upperBounds s k).min? = some high) :
    envelope s k t = if low ≤ high then clamp t low high else rounded (low + high) 2 := by
  unfold envelope
  rw [lowBound_eq_max, highBound_eq_min, hl, hh]

/-- Everything the envelope can do: nothing where no car is pinned, otherwise a clamp between the greatest lower and
the least upper bound, or their mean where these cross (R114). -/
theorem envelope_cases (s : State) (k : Nat) (t : Int) :
    ((∀ j a, (j, a) ∉ pinnedCars s) ∧ envelope s k t = t) ∨
    ∃ low high, (lowerBounds s k).max? = some low ∧ (upperBounds s k).min? = some high ∧
      envelope s k t = if low ≤ high then clamp t low high else rounded (low + high) 2 := by
  cases pinned : pinnedCars s with
  | nil => exact .inl ⟨by simp, by simp [envelope, pinned, lowBound]⟩
  | cons x rest =>
    obtain ⟨low, hl⟩ : ∃ low, (lowerBounds s k).max? = some low :=
      Option.isSome_iff_exists.1 (by simp [lowerBounds, pinned])
    obtain ⟨high, hh⟩ : ∃ high, (upperBounds s k).min? = some high :=
      Option.isSome_iff_exists.1 (by simp [upperBounds, pinned])
    exact .inr ⟨low, high, hl, hh, envelope_eq t hl hh⟩

end Sys2Proof.Machine

namespace Sys2Proof.Machine

open Sys2Proof

/-! ## Targets under the envelope (R112, R114) -/

theorem boundTarget_binds {s : State} {k : Nat} (t : Int) (policy : s.params.faultPolicy = .isolated)
    (following : isFollowing s k = true) : boundTarget s k t = envelope s k t := if_pos ⟨policy, following⟩

theorem boundTarget_free {s : State} {k : Nat} (t : Int)
    (free : s.params.faultPolicy = .whole ∨ isFollowing s k = false) : boundTarget s k t = t :=
  if_neg fun ⟨policy, following⟩ => free.elim (by simp [policy]) (by simp [following])

section
variable {s : State} {k : Nat}

/-- Where one angle is within reach of every pinned car, the envelope answers such an angle. -/
theorem envelope_within_reach (t : Int) {x : Int}
    (possible : ∀ j a, (j, a) ∈ pinnedCars s → (x - a).natAbs ≤ s.params.adjacentMax * (gangways k j).natAbs) (j : Nat)
    (a : Int) (pinned : (j, a) ∈ pinnedCars s) :
    (envelope s k t - a).natAbs ≤ s.params.adjacentMax * (gangways k j).natAbs := by
  simp only [within_reach_iff] at possible ⊢
  rcases envelope_cases s k t with ⟨none, -⟩ | ⟨low, high, hl, hh, e⟩
  · exact absurd pinned (none j a)
  · obtain ⟨⟨i, b, hb, rfl⟩, above⟩ := lowerBounds_max.1 hl
    obtain ⟨⟨n, c, hc, rfl⟩, below⟩ := upperBounds_min.1 hh
    have lower := (possible i b hb).1
    have upper := (possible n c hc).2
    have order := lower.trans upper
    obtain ⟨least, most⟩ := clamp_mem (x := t) order
    rw [e, if_pos order]
    exact ⟨(above j a pinned).trans least, most.trans (below j a pinned)⟩

/-- An angle within reach of every pinned car is left as it is. -/
theorem envelope_of_within_reach {t : Int}
    (inside : ∀ j a, (j, a) ∈ pinnedCars s → (t - a).natAbs ≤ s.params.adjacentMax * (gangways k j).natAbs) :
    envelope s k t = t := by
  simp only [within_reach_iff] at inside
  rcases envelope_cases s k t with ⟨-, e⟩ | ⟨low, high, hl, hh, e⟩
  · exact e
  · obtain ⟨⟨i, b, hb, rfl⟩, -⟩ := lowerBounds_max.1 hl
    obtain ⟨⟨n, c, hc, rfl⟩, -⟩ := upperBounds_min.1 hh
    have lower := (inside i b hb).1
    have upper := (inside n c hc).2
    rw [e, if_pos (lower.trans upper), clamp_of_mem lower upper]

/-- Pinned angles within ±thetaMax bound a target by no more than thetaMax. -/
theorem envelope_natAbs_le {t : Int} (pinned : ∀ j a, (j, a) ∈ pinnedCars s → a.natAbs ≤ s.params.thetaMax)
    (target : t.natAbs ≤ s.params.thetaMax) : (envelope s k t).natAbs ≤ s.params.thetaMax := by
  rcases envelope_cases s k t with ⟨-, e⟩ | ⟨low, high, hl, hh, e⟩
  · rwa [e]
  · obtain ⟨⟨i, b, hb, lower⟩, -⟩ := lowerBounds_max.1 hl
    obtain ⟨⟨n, c, hc, upper⟩, -⟩ := upperBounds_min.1 hh
    have lowTop : low ≤ s.params.thetaMax := by
      have := pinned i b hb
      have := gangwayReach_nonneg s k i
      omega
    have highBottom : -(s.params.thetaMax : Int) ≤ high := by
      have := pinned n c hc
      have := gangwayReach_nonneg s k n
      omega
    rw [e]
    split
    · unfold clamp
      split
      · omega
      · split <;> omega
    · have := rounded_near (low + high) 2 (by decide)
      omega

end

/-- Settles O47: each step of the arithmetic, the bounds of a target before the envelope, and the envelope. -/
theorem targetsRespectCapsAndGangways : Obligations.TargetsRespectCapsAndGangways := by
  refine ⟨fun n d hd => ⟨rounded_isRounded n hd, truncated_isTruncated n hd⟩, fun geo p =>
    ⟨fun g => GeoStore.at_covers, GeoStore.at_none⟩, fun _ _ _ => ⟨rfl, rfl⟩, fun s =>
    ⟨sensingBound_absent, fun k c => sensingBound_only⟩, fun _ _ => ⟨rfl, rfl⟩, ?angle, fun _ _ _ _ => ⟨rfl, rfl⟩,
    ?mean, ?bounds, predTarget_bounds, fun s m => tiltAngle_natAbs_le _ _ _, ?reach, fun s k t => boundTarget_free t,
    ?theta, fun s j a => mem_pinnedCars⟩
  case angle =>
    intro s pf pr gf gr k h a angle curve cant felt tilt
    have target := predTarget_eq s pf pr gf gr k h a angle curve cant felt tilt
    refine ⟨fun hf hr => ?_, fun x hf hr => ?_, fun x hf hr => ?_, fun x y hf hr => ?_⟩ <;> rw [target, hf, hr] <;> rfl
  case mean =>
    intro ring felt q held window empty newest within
    have mean := meanAt_eq empty newest within
    exact ⟨fun none => mean.trans (if_pos none), fun some => mean.trans (if_neg some)⟩
  case bounds =>
    intro s k t low high policy following lowest above highest below
    rw [boundTarget_binds t policy following,
      envelope_eq t (lowerBounds_max.2 ⟨lowest, above⟩) (upperBounds_min.2 ⟨highest, below⟩)]
    exact ⟨fun order => if_pos order, fun crossed => if_neg (by omega)⟩
  case reach =>
    intro s k t policy following
    rw [boundTarget_binds t policy following]
    exact ⟨fun x possible => envelope_within_reach t possible, envelope_of_within_reach⟩
  case theta =>
    intro s k t pinned target
    unfold boundTarget
    split
    · exact envelope_natAbs_le pinned target
    · exact target

end Sys2Proof.Machine

namespace Sys2Proof.Machine

open Sys2Proof

/-! ## The report counted for telemetry (R183) -/

theorem Notices.raise_telemetry (n : Notices) :
    n.raise .telemetry noFlag = { n with telemetry := { n.telemetry with pending := true } } := by
  simp [Notices.raise, Notices.get, Notices.set, noFlag]

theorem countReport_off {s : State} (off : s.link.period = 0) : countReport s = s := if_pos off

theorem countReport_falls {s : State} (on : s.link.period ≠ 0) (left : 2 ≤ s.link.countdown) :
    countReport s = s.setLink { s.link with countdown := s.link.countdown - 1 } := by
  rw [countReport, if_neg on]
  exact if_neg (by omega)

theorem countReport_due {s : State} (on : s.link.period ≠ 0) (last : s.link.countdown = 1) :
    countReport s = s.setLink { s.link with
      countdown := s.link.period
      notices := { s.link.notices with telemetry := { s.link.notices.telemetry with pending := true } } } := by
  rw [← Notices.raise_telemetry, countReport, if_neg on, last]
  rfl

/-- A report counted writes the countdown and the TELEMETRY notice, and nothing else. -/
theorem countReport_frame (s : State) :
    countReport s =
      { s with
        link := { s.link with
          countdown := (countReport s).link.countdown
          notices := { s.link.notices with telemetry := (countReport s).link.notices.telemetry } } } := by
  unfold countReport
  split
  · rfl
  · dsimp only
    split <;> rfl

/-- Without a formation or a period a report changes nothing (R116, R183). -/
theorem hearReport_unheard {s : State} (h : s.cars = [] ∨ s.link.period = 0) : hearReport s = s := by
  unfold hearReport
  split
  · next exist => exact countReport_off (h.resolve_left ((formationExists_iff s).1 exist))
  · rfl

theorem hearReport_counts {s : State} (h : s.cars ≠ []) : hearReport s = countReport s :=
  if_pos ((formationExists_iff s).2 h)

/-- A settled transmitter chooses nothing where the frames and notices that may wait stand as they stood (R180). -/
theorem Settled.chooses_nothing {s t : State} (settled : Settled s) (sending : t.link.sending = s.link.sending)
    (reply : t.link.reply = s.link.reply) (completions : t.link.completions = s.link.completions)
    (notices : t.link.notices = s.link.notices) : chooseIfIdle t = t := by
  apply chooseIfIdle_settled
  unfold Settled
  rw [sending, reply, completions, notices]
  exact settled

/-! ## ReadAlerts (R164, R191) -/

/-- The bytes of ReadAlerts after its header (R191). -/
def alertListBytes (s : State) : List Byte :=
  [u8 s.line.alerts.length] ++ reserved 3 ++ s.line.alerts.flatMap alertBytes

theorem handleReadAlerts_eq (tag : Byte) (s : State) :
    handleReadAlerts tag s =
      (s.setLine { s.line with alerts := [] }).respond (okFrame 0x32#8 tag (alertListBytes s)) := rfl

theorem alertListBytes_length (s : State) : (alertListBytes s).length = 4 + 8 * s.line.alerts.length := by
  have width : (s.line.alerts.flatMap alertBytes).length = 8 * s.line.alerts.length := by
    rw [List.length_flatMap, show (fun a => (alertBytes a).length) = fun _ => 8 from rfl, List.map_const',
      List.sum_replicate, smul_eq_mul, Nat.mul_comm]
  rw [alertListBytes, List.length_append, width]
  rfl

/-- The fields of an alert record, behind the four bytes before the records. -/
theorem alert_fields {s : State} {i : Nat} {a : Alert} (item : s.line.alerts[i]? = some a) :
    natAt 1 (4 + 8 * i) (alertListBytes s) = min a.car 255 ∧
    natAt 1 (5 + 8 * i) (alertListBytes s) = (alertCode a.kind).toNat ∧
    natAt 2 (6 + 8 * i) (alertListBytes s) = a.detail.toNat ∧
    intAt 4 (8 + 8 * i) (alertListBytes s) = saturatePos a.position := by
  obtain ⟨rest, inItem⟩ := natAt_flatMap (f := alertBytes) (w := 8) (fun _ => rfl) item
  have bytes : alertBytes a ++ rest = u8 a.car :: alertCode a.kind :: (bytes2 a.detail ++ (i32 a.position ++ rest)) := by
    simp only [alertBytes, List.append_assoc, List.cons_append, List.nil_append]
  have field (n j k : Nat) (place : k = 4 + (8 * i + j)) : natAt n k (alertListBytes s) =
      natAt n j (u8 a.car :: alertCode a.kind :: (bytes2 a.detail ++ (i32 a.position ++ rest))) := by
    rw [← bytes, ← inItem, place]
    exact natAt_skip n (8 * i + j) ([u8 s.line.alerts.length] ++ reserved 3) _
  refine ⟨?_, ?_, ?_, ?_⟩
  · rw [field 1 0 _ (by omega), natAt_first, u8_toNat_min, min_comm]
  · rw [field 1 1 _ (by omega), natAt_cons, natAt_first]
  · rw [field 2 2 _ (by omega), natAt_cons, natAt_cons, natAt_bytes2]
  · rw [intAt_congr (field 4 4 _ (by omega)), intAt_cons, intAt_cons]
    exact (intAt_skip 4 0 (bytes2 a.detail) _).trans (intAt_i32 _ _)

/-! ## SetReporting (R184) -/

/-- A period is at most 250, so it is sent as it is. -/
theorem u8_reportingPeriod (n : Nat) : u8 (reportingPeriod n) = BitVec.ofNat 8 (min n 250) := by
  rw [u8, reportingPeriod, Config.reportingMax, show min (min n 250) 255 = min n 250 by omega]

theorem handleSetReporting_eq (tag : Byte) (p : Half) (s : State) :
    handleSetReporting tag p s =
      (s.setLink { s.link with period := min p.toNat 250, countdown := min p.toNat 250 }).respond
        (okFrame 0x38#8 tag [BitVec.ofNat 8 (min p.toNat 250), 0, 0, 0]) := by
  rw [← u8_reportingPeriod]
  rfl

/-- Settles O39: the four checks of NodeTransfer in order, then the owner of each other request and the report. -/
theorem transfersAlertsAndReporting : Obligations.TransfersAlertsAndReporting := by
  intro s tag free
  obtain ⟨running, -⟩ := id free
  obtain ⟨-, settled⟩ := id running
  have transfer (car dir item : Byte) (value : Half) :
      exec (.nodeTransfer tag car dir item 0#8 value) s =
        .next (chooseIfIdle (handleNodeTransfer tag car dir item value s)) :=
    exec_served (c := .nodeTransfer tag car dir item 0#8 value) free rfl rfl rfl rfl
  have report : exec .telemetryCountdown s = .next (chooseIfIdle (hearReport s)) :=
    (exec_event s rfl).trans (act_running _ running)
  refine ⟨fun car dir item value => ⟨fun bad => ?_, fun inside form => ?_⟩,
    ⟨alertListBytes s, ?_, alertListBytes_length s, fun count => ?_, fun i a => alert_fields⟩, fun p => ?_,
    fun none => ?_, fun cars on left => ?_, fun cars on last => ?_⟩
  · rw [transfer, handleNodeTransfer]
    dsimp only
    rw [if_pos bad]
    rfl
  · have good : ¬(s.cars.length ≤ car.toNat ∨ 1 < dir.toNat ∨ (dir = 0#8 ∧ value ≠ 0#16)) := by
      rcases form with ⟨rfl, rfl⟩ | rfl <;> simp [inside]
    rw [transfer, handleNodeTransfer]
    dsimp only
    rw [if_neg good]
    refine ⟨fun line => ?_, fun line bound => ?_, fun line bound full => ?_, fun line bound room => ?_⟩
    · rw [if_pos line]
      rfl
    · rw [if_neg (not_not.2 line), if_pos (by simp [bound])]
      rfl
    · rw [if_neg (not_not.2 line), if_neg (by simp [bound]),
        if_pos (show Config.transferCapacity ≤ transfersOutstanding s from full)]
      rfl
    · rw [if_neg (not_not.2 line), if_neg (by simp [bound]),
        if_neg (show ¬Config.transferCapacity ≤ transfersOutstanding s from Nat.not_le.2 room)]
      exact congrArg Host.Outcome.next (settled.chooses_nothing rfl rfl rfl rfl)
  · rw [exec_served (c := .readAlerts tag) free rfl rfl rfl rfl, serve, handleReadAlerts_eq]
    rfl
  · exact (natAt_first _ _).trans (u8_toNat count)
  · rw [exec_served (c := .setReporting tag p) free rfl rfl rfl rfl, serve, handleSetReporting_eq]
    rfl
  · rw [report, hearReport_unheard none, chooseIfIdle_settled settled]
  · rw [report, hearReport_counts cars, countReport_falls on left]
    exact congrArg Host.Outcome.next (settled.chooses_nothing rfl rfl rfl rfl)
  · rw [report, hearReport_counts cars, countReport_due on last]
    rfl

end Sys2Proof.Machine

namespace Sys2Proof.Machine

open Sys2Proof

/-! ## The source of a target (R103, R104) -/

/-- The mean of row 4 of R103 is the ring's, where the reactive method is enabled and the sensing car's node bound. -/
theorem reactMean_eq_some {s : State} {c : Car} {n : CarNode} {m : Int} :
    reactMean s c n = some m ↔ s.params.reactiveEnable = true ∧ sensingBound s = true ∧
      meanAt (queryPosition s c n) s.params.reactiveWindow s.ring = some m := by
  unfold reactMean
  split
  · next h => simp_all
  · next h => simp_all

/-- Row 4 of R103 holds where it has a mean. -/
theorem reactMean_ne_none {s : State} {c : Car} {n : CarNode} :
    reactMean s c n ≠ none ↔ s.params.reactiveEnable = true ∧ sensingBound s = true ∧
      meanAt (queryPosition s c n) s.params.reactiveWindow s.ring ≠ none := by
  simp only [Option.ne_none_iff_exists', reactMean_eq_some, exists_and_left]

/-- Rows 4 and 5 of R103. -/
theorem fallbackTarget_cases (s : State) (c : Car) (n : CarNode) :
    (∃ m, reactMean s c n = some m ∧ fallbackTarget s c n = { angle := reactTarget s m, source := .react }) ∨
    (reactMean s c n = none ∧ fallbackTarget s c n = { angle := 0, source := .none }) := by
  unfold fallbackTarget
  cases h : reactMean s c n with
  | some m => exact .inl ⟨m, rfl, rfl⟩
  | none => exact .inr ⟨rfl, rfl⟩

/-- The record of a car that does not tilt (R103, row 1). -/
theorem planCar_untilted {s : State} {c : Car} (node : c.node = none) :
    planCar s c = { target := 0, source := .none, front := none, rear := none, fallback := false } := by
  simp only [planCar, node]

/-- The record of a tilting car without a run (R103, row 2). -/
theorem planCar_still {s : State} {c : Car} {n : CarNode} (node : c.node = some n) (still : s.ctl.run = false) :
    planCar s c = { target := 0, source := .none, front := none, rear := none, fallback := false } := by
  simp [planCar, node, still]

/-- The rows of R103 for a tilting car, each with its record: no run, below speedMin, predictive, and the fallback from
it to rows 4 and 5, which is marked where both positions are covered (R104). -/
theorem planCar_cases {s : State} {c : Car} {n : CarNode} (node : c.node = some n) :
    (s.ctl.run = false ∧
      planCar s c = { target := 0, source := .none, front := none, rear := none, fallback := false }) ∨
    (s.ctl.run = true ∧ s.odo.v < s.params.speedMin ∧
      planCar s c = { target := 0, source := .none, front := some (frontAt s c n), rear := some (rearAt s c n),
                      fallback := false }) ∨
    (s.ctl.run = true ∧ s.params.speedMin ≤ s.odo.v ∧ s.odo.trust = true ∧
      ∃ gf gr, s.geo.at (frontAt s c n) = some gf ∧ s.geo.at (rearAt s c n) = some gr ∧
        planCar s c = { target := predTarget s (frontAt s c n) (rearAt s c n) gf gr, source := .pred,
                        front := some (frontAt s c n), rear := some (rearAt s c n), fallback := false }) ∨
    (s.ctl.run = true ∧ s.params.speedMin ≤ s.odo.v ∧
      (s.odo.trust = false ∨ s.geo.at (frontAt s c n) = none ∨ s.geo.at (rearAt s c n) = none) ∧
      planCar s c = { target := (fallbackTarget s c n).angle, source := (fallbackTarget s c n).source,
                      front := some (frontAt s c n), rear := some (rearAt s c n),
                      fallback := (s.geo.at (frontAt s c n)).isSome && (s.geo.at (rearAt s c n)).isSome }) := by
  cases run : s.ctl.run with
  | false => exact .inl ⟨rfl, planCar_still node run⟩
  | true =>
    by_cases slow : s.odo.v < s.params.speedMin
    · exact .inr (.inl ⟨rfl, slow, by simp [planCar, node, run, slow]⟩)
    · have fast := Nat.le_of_not_lt slow
      cases front : s.geo.at (frontAt s c n) with
      | none => exact .inr (.inr (.inr ⟨rfl, fast, .inr (.inl rfl), by simp [planCar, node, run, slow, front]⟩))
      | some gf =>
        cases rear : s.geo.at (rearAt s c n) with
        | none =>
          exact .inr (.inr (.inr ⟨rfl, fast, .inr (.inr rfl), by simp [planCar, node, run, slow, front, rear]⟩))
        | some gr =>
          cases trust : s.odo.trust with
          | true =>
            exact .inr (.inr (.inl ⟨rfl, fast, rfl, gf, gr, rfl, rfl,
              by simp [planCar, node, run, slow, front, rear, trust]⟩))
          | false =>
            exact .inr (.inr (.inr ⟨rfl, fast, .inl rfl, by simp [planCar, node, run, slow, front, rear, trust]⟩))

section
variable {s : State} {c : Car} {n : CarNode}

/-- The positions a tilting car is evaluated at during a run (R102). -/
theorem planCar_positions (node : c.node = some n) (run : s.ctl.run = true) :
    (planCar s c).front = some (frontAt s c n) ∧ (planCar s c).rear = some (rearAt s c n) := by
  rcases planCar_cases (s := s) node with ⟨still, -⟩ | ⟨-, -, e⟩ | ⟨-, -, -, gf, gr, -, -, e⟩ | ⟨-, -, -, e⟩
  · simp [run] at still
  all_goals rw [e]; exact ⟨rfl, rfl⟩

/-- A slow car has no source (R103, row 2). -/
theorem planCar_slow (node : c.node = some n) (slow : s.odo.v < s.params.speedMin) :
    (planCar s c).source = .none ∧ (planCar s c).fallback = false := by
  rcases planCar_cases (s := s) node with ⟨-, e⟩ | ⟨-, -, e⟩ | ⟨-, fast, -⟩ | ⟨-, fast, -⟩
  · rw [e]; exact ⟨rfl, rfl⟩
  · rw [e]; exact ⟨rfl, rfl⟩
  · omega
  · omega

/-- Where both positions are covered, the source is predictive under trust, and its want is marked (R103, R104). -/
theorem planCar_covered {gf gr : Segment} (node : c.node = some n) (run : s.ctl.run = true)
    (fast : s.params.speedMin ≤ s.odo.v) (front : s.geo.at (frontAt s c n) = some gf)
    (rear : s.geo.at (rearAt s c n) = some gr) :
    (planCar s c).fallback = !s.odo.trust ∧ (s.odo.trust = true → (planCar s c).source = .pred) := by
  rcases planCar_cases (s := s) node with ⟨still, -⟩ | ⟨-, slow, -⟩ | ⟨-, -, trust, _, _, -, -, e⟩ | ⟨-, -, bare, e⟩
  · simp [run] at still
  · omega
  · rw [e, trust]; exact ⟨rfl, fun _ => rfl⟩
  · have doubt : s.odo.trust = false := by simpa [front, rear] using bare
    rw [e, front, rear, doubt]; exact ⟨rfl, nofun⟩

/-- Where a position is not covered, nothing is marked (R104). -/
theorem planCar_uncovered (node : c.node = some n)
    (bare : s.geo.at (frontAt s c n) = none ∨ s.geo.at (rearAt s c n) = none) : (planCar s c).fallback = false := by
  rcases planCar_cases (s := s) node with ⟨-, e⟩ | ⟨-, -, e⟩ | ⟨-, -, -, gf, gr, -, -, e⟩ | ⟨-, -, -, e⟩
  · rw [e]
  · rw [e]
  · rw [e]
  · rw [e]
    rcases bare with h | h <;> simp [h]

/-- Where the predictive method cannot be used, the source is that of row 4 or of row 5 of R103. -/
theorem planCar_fallback (node : c.node = some n) (run : s.ctl.run = true) (fast : s.params.speedMin ≤ s.odo.v)
    (bare : s.odo.trust = false ∨ s.geo.at (frontAt s c n) = none ∨ s.geo.at (rearAt s c n) = none) :
    ((planCar s c).source = .react ↔ reactMean s c n ≠ none) ∧
      ((planCar s c).source = .react ∨ (planCar s c).source = .none) := by
  rcases planCar_cases (s := s) node with
    ⟨still, -⟩ | ⟨-, slow, -⟩ | ⟨-, -, trust, gf, gr, front, rear, -⟩ | ⟨-, -, -, e⟩
  · simp [run] at still
  · omega
  · simp [trust, front, rear] at bare
  · rw [e]
    rcases fallbackTarget_cases s c n with ⟨m, mean, f⟩ | ⟨mean, f⟩ <;> rw [f, mean] <;> simp

/-- The target before the envelope is that of its source (R103). -/
theorem planCar_target (node : c.node = some n) :
    ((planCar s c).source = .none → (planCar s c).target = 0) ∧
    (∀ gf gr, (planCar s c).source = .pred → s.geo.at (frontAt s c n) = some gf → s.geo.at (rearAt s c n) = some gr →
      (planCar s c).target = predTarget s (frontAt s c n) (rearAt s c n) gf gr) ∧
    (∀ m, (planCar s c).source = .react → meanAt (queryPosition s c n) s.params.reactiveWindow s.ring = some m →
      (planCar s c).target = reactTarget s m) := by
  rcases planCar_cases (s := s) node with ⟨-, e⟩ | ⟨-, -, e⟩ | ⟨-, -, -, gf, gr, front, rear, e⟩ | ⟨-, -, -, e⟩
  · simp [e]
  · simp [e]
  · rw [e]
    refine ⟨nofun, fun x y _ hx hy => ?_, by simp⟩
    obtain rfl := Option.some.inj (front.symm.trans hx)
    obtain rfl := Option.some.inj (rear.symm.trans hy)
    rfl
  · rw [e]
    rcases fallbackTarget_cases s c n with ⟨m, mean, f⟩ | ⟨-, f⟩ <;> rw [f]
    · refine ⟨nofun, by simp, fun x _ hx => ?_⟩
      obtain ⟨-, -, felt⟩ := reactMean_eq_some.1 mean
      rw [Option.some.inj (felt.symm.trans hx)]
    · simp

end

/-! ## The record under the envelope (R112, R115) -/

@[simp] theorem planRecord_target (s : State) (k : Nat) (c : Car) :
    (planRecord s k c).target = boundTarget s k (planCar s c).target := rfl
@[simp] theorem planRecord_source (s : State) (k : Nat) (c : Car) :
    (planRecord s k c).source = (planCar s c).source := rfl
@[simp] theorem planRecord_front (s : State) (k : Nat) (c : Car) :
    (planRecord s k c).front = (planCar s c).front := rfl
@[simp] theorem planRecord_rear (s : State) (k : Nat) (c : Car) : (planRecord s k c).rear = (planCar s c).rear := rfl
@[simp] theorem planRecord_fallback (s : State) (k : Nat) (c : Car) :
    (planRecord s k c).fallback = (planCar s c).fallback := rfl

/-- A car that does not tilt has a channel that is NOT_FITTED, so it is not FOLLOWING (R121). -/
theorem isFollowing_untilted {s : State} {k : Nat} (law : TableLaw s) (still : isTilting s k = false) :
    isFollowing s k = false := by
  obtain ⟨-, -, -, fitted⟩ := law
  unfold isFollowing
  cases h : s.chans[k]? with
  | none => rfl
  | some c => simp [(fitted k c h).2 still]

/-- The envelope leaves the record of a car that does not tilt. -/
theorem planRecord_untilted {s : State} {k : Nat} {c : Car} (law : TableLaw s) (place : s.cars[k]? = some c)
    (node : c.node = none) :
    planRecord s k c = { target := 0, source := .none, front := none, rear := none, fallback := false } := by
  have still : isTilting s k = false := by simp [isTilting, place, Car.tilting, node]
  simp only [planRecord, planCar_untilted node, boundTarget_free 0 (.inr (isFollowing_untilted law still))]

/-! ## The exhaustion test (R117) -/

/-- The part is ACTIVE and a tilting car has run out of the route. -/
def routeExhausted (s : State) : Bool := decide (s.ctl.mode = .active) && s.cars.any (isExhausted s)

theorem isExhausted_iff {s : State} {c : Car} :
    isExhausted s c = true ↔
      ∃ n, c.node = some n ∧ ∀ g, s.geo.committed.getLast? = some g → g.stop ≤ frontAt s c n := by
  unfold isExhausted GeoStore.committedEnd
  cases c.node with
  | none => simp
  | some n => cases s.geo.committed.getLast? <;> simp

theorem routeExhausted_iff {s : State} :
    routeExhausted s = true ↔ s.ctl.mode = .active ∧ ∃ c ∈ s.cars, ∃ n, c.node = some n ∧
      ∀ g, s.geo.committed.getLast? = some g → g.stop ≤ frontAt s c n := by
  simp only [routeExhausted, Bool.and_eq_true, decide_eq_true_eq, List.any_eq_true, isExhausted_iff]

/-- The GEOMETRY notice after the test: raised as the latch is set. -/
def exhaustionNotice (s : State) : Notice :=
  if routeExhausted s = true ∧ s.plan.exhausted = false then
    { pending := true, flags := s.link.notices.geometry.flags ||| 2#16 } else s.link.notices.geometry

/-- The exhaustion test writes the latch and the GEOMETRY notice, and nothing else. -/
theorem testExhaustion_eq (s : State) :
    testExhaustion s =
      { s with
        plan := { s.plan with exhausted := routeExhausted s }
        link := { s.link with notices := { s.link.notices with geometry := exhaustionNotice s } } } := by
  unfold testExhaustion exhaustionNotice routeExhausted
  by_cases active : s.ctl.mode = .active
  · cases s.cars.any (isExhausted s) <;> cases h : s.plan.exhausted <;> simp [active] <;> rfl
  · simp [active]; rfl

/-! ## The computation (R99, R116, R117, R183) -/

/-- The records of a computation. -/
def planRecords (s : State) : List PlanRecord := s.cars.mapIdx (fun k c => planRecord s k c)

theorem planRecords_length (s : State) : (planRecords s).length = s.cars.length := List.length_mapIdx

theorem planRecords_place {s : State} {k : Nat} {c : Car} {r : PlanRecord} (place : s.cars[k]? = some c)
    (record : (planRecords s)[k]? = some r) : r = planRecord s k c := by
  rw [planRecords, List.getElem?_mapIdx, place] at record
  exact (Option.some.inj record).symm

/-- The state in which the host link hears of a computation: the records and the target list are delivered and the
route is tested. -/
def planned (s : State) : State :=
  { s with
    plan := { records := planRecords s, exhausted := routeExhausted s,
              delivered := some ((planRecords s).map (fun r => { angle := r.target, source := r.source })) }
    link := { s.link with notices := { s.link.notices with geometry := exhaustionNotice s } } }

theorem computePlan_none {s : State} (h : s.cars = []) : computePlan s = s :=
  if_neg fun exist => (formationExists_iff s).1 exist h

/-- Where a formation exists, a computation delivers its targets and is counted. -/
theorem computePlan_planned {s : State} (h : s.cars ≠ []) : computePlan s = countReport (planned s) := by
  rw [computePlan, if_pos ((formationExists_iff s).2 h), testExhaustion_eq]
  rfl

/-- A report counted leaves the planner. -/
theorem countReport_plan (s : State) : (countReport s).plan = s.plan := by rw [countReport_frame]

/-- A report counted leaves the GEOMETRY notice. -/
theorem countReport_geometry (s : State) : (countReport s).link.notices.geometry = s.link.notices.geometry := by
  rw [countReport_frame]

/-- Settles O46: the records by the rows of R103, the envelope over their targets, the exhaustion test and the count. -/
theorem computationsChooseASourcePerCar : Obligations.ComputationsChooseASourcePerCar := by
  intro s running law
  have computed : exec .plannerComputation s = .next (chooseIfIdle (computePlan s)) :=
    (exec_event s rfl).trans (act_running _ running)
  refine ⟨fun none => by rw [computed, computePlan_none none, chooseIfIdle_settled running.2], fun cars => ?_⟩
  rw [computePlan_planned cars] at computed
  refine ⟨countReport (planned s), computed, ?_⟩
  rw [countReport_plan, countReport_geometry]
  refine ⟨planRecords_length s, rfl, countReport_frame (planned s), countReport_counts (planned s),
    routeExhausted_iff, rfl, fun k c r place record => ?_⟩
  obtain rfl := planRecords_place place record
  refine ⟨planRecord_untilted law place, fun n node => ⟨fun still => ?_, fun run => ?_, fun free => ?_,
    fun policy following => ?_⟩⟩
  · simp [planCar_still node still]
  · obtain ⟨front, rear⟩ := planCar_positions node run
    refine ⟨front, rear, planCar_slow node, fun fast => ⟨fun gf gr => planCar_covered node run fast,
      planCar_uncovered node, fun bare => ?_⟩⟩
    rw [← reactMean_ne_none]
    exact planCar_fallback node run fast bare
  · rw [planRecord_target, boundTarget_free _ free]
    exact planCar_target node
  · obtain ⟨none, pred, react⟩ := planCar_target (s := s) node
    exact ⟨fun h => congrArg (boundTarget s k) (none h),
      fun gf gr h front rear => congrArg (boundTarget s k) (pred gf gr h front rear),
      fun m h mean => congrArg (boundTarget s k) (react m h mean)⟩

end Sys2Proof.Machine

namespace Sys2Proof.Machine

open Sys2Proof

/-! ## What a limiter pass bounds (R129, R130) -/

/-- Clamping moves a value toward whatever stands within the bounds. -/
theorem clamp_toward {x y lo hi low high : Int} (y1 : lo ≤ y) (y2 : y ≤ hi) (hx : low ≤ x ∧ x ≤ high)
    (hy : low ≤ y ∧ y ≤ high) : low ≤ clamp x lo hi ∧ clamp x lo hi ≤ high := by
  unfold clamp
  split
  · omega
  · split <;> omega

/-- The braked step lies within the rate limit, and within the increment of the step before (R129, steps 1 to 5). -/
theorem limitedStep_bounds (p : Params) (target theta step : Int) (rate : step.natAbs ≤ p.sMax) :
    (limitedStep p target theta step).natAbs ≤ p.sMax ∧
      (limitedStep p target theta step - step).natAbs ≤ p.dStep := by
  unfold limitedStep clampAbs
  dsimp only
  generalize hs1 : clamp (target - theta) (step - p.dStep) (step + p.dStep) = s1
  generalize hs2 : clamp s1 (-(p.sMax : Int)) p.sMax = s2
  have accelerated : step - p.dStep ≤ s1 ∧ s1 ≤ step + p.dStep := hs1 ▸ clamp_mem (by omega)
  have limited : -(p.sMax : Int) ≤ s2 ∧ s2 ≤ p.sMax := hs2 ▸ clamp_mem (by omega)
  have near : step - p.dStep ≤ s2 ∧ s2 ≤ step + p.dStep :=
    hs2 ▸ clamp_toward (y := step) (by omega) (by omega) accelerated (by omega)
  split <;> split <;> omega

/-- The change of a set-point within its limit is at most the braked step (R129, step 6). -/
theorem limiterPass_change (p : Params) (target : Int) (c : Channel) (within : c.theta.natAbs ≤ p.thetaMax) :
    ((limiterPass p target c).theta - c.theta).natAbs ≤ (limitedStep p target c.theta c.step).natAbs := by
  simp only [limiterPass, clampAbs]
  generalize limitedStep p target c.theta c.step = x
  have toward := clamp_toward (x := c.theta + x) (y := c.theta) (lo := -(p.thetaMax : Int)) (hi := p.thetaMax)
    (low := min c.theta (c.theta + x)) (high := max c.theta (c.theta + x)) (by omega) (by omega) (by omega) (by omega)
  omega

/-- A pass changes the set-point by at most the rate limit (R130). -/
theorem limiterPass_rate (p : Params) (target : Int) {c : Channel} (within : c.theta.natAbs ≤ p.thetaMax)
    (rate : c.step.natAbs ≤ p.sMax) : ((limiterPass p target c).theta - c.theta).natAbs ≤ p.sMax :=
  (limiterPass_change p target c within).trans (limitedStep_bounds p target c.theta c.step rate).1

/-- Settles O50: each bound of R130 from the step that gives it. -/
theorem limiterBoundsAngleRateAndAcceleration : Obligations.LimiterBoundsAngleRateAndAcceleration :=
  fun p c t within rate =>
    ⟨limiterPass_theta_le p t c, limiterPass_rate p t within rate, limiterPass_rate p t within rate,
      (limitedStep_bounds p t c.theta c.step rate).2⟩

end Sys2Proof.Machine

namespace Sys2Proof.Machine

open Sys2Proof

/-! ## What leaves the channels, the mode and the parameters -/

/-- What the laws of a channel read: the device mode, the parameters and the channel records. -/
def State.channelView (s : State) : Mode × Params × List Channel := (s.ctl.mode, s.params, s.chans)

@[simp] theorem State.setLine_channelView (s : State) (x : CarLine) : (s.setLine x).channelView = s.channelView := rfl
@[simp] theorem State.setLink_channelView (s : State) (x : HostLink) : (s.setLink x).channelView = s.channelView := rfl
@[simp] theorem State.setPlan_channelView (s : State) (x : Planner) : (s.setPlan x).channelView = s.channelView := rfl
@[simp] theorem State.setOdo_channelView (s : State) (x : Odometer) : (s.setOdo x).channelView = s.channelView := rfl
@[simp] theorem State.raise_channelView (s : State) (k : NoticeKind) (f : Half) :
    (s.raise k f).channelView = s.channelView := rfl
@[simp] theorem State.reevaluate_channelView (s : State) : s.reevaluate.channelView = s.channelView := rfl
@[simp] theorem unbind_channelView (k : Nat) (s : State) : (unbind k s).channelView = s.channelView := rfl
@[simp] theorem countMismatch_channelView (s : State) : (countMismatch s).channelView = s.channelView := rfl
@[simp] theorem openRound_channelView (s : State) : (openRound s).channelView = s.channelView := rfl

@[simp] theorem State.raiseIf_channelView (s : State) (c : Bool) (k : NoticeKind) (f : Half) :
    (s.raiseIf c k f).channelView = s.channelView := by cases c <;> rfl

theorem State.channelView_of_train {s t : State} (train : t.train = s.train) (ctl : t.ctl = s.ctl) :
    t.channelView = s.channelView := by
  rw [State.channelView, ctl, State.train_params train, State.train_chans train]
  rfl

@[simp] theorem completeHead_channelView (r : ResultCode) (value : Half) (s : State) :
    (completeHead r value s).channelView = s.channelView := by rw [completeHead_eq]; rfl

@[simp] theorem completeRollCall_channelView (r : ResultCode) (d : Detail) (s : State) :
    (completeRollCall r d s).channelView = s.channelView := by
  rcases completeRollCall_cases r d s with ⟨-, e⟩ | ⟨m, -, e⟩ <;> rw [e]
  rfl

@[simp] theorem parkSerial_channelView (x : Serial) (s : State) : (parkSerial x s).channelView = s.channelView := by
  unfold parkSerial
  split <;> rfl

@[simp] theorem endMuster_channelView (overfull : Bool) (s : State) :
    (endMuster overfull s).channelView = s.channelView := by simp [endMuster]

@[simp] theorem endRound_channelView (drew : Bool) (s : State) : (endRound drew s).channelView = s.channelView := by
  unfold endRound
  split
  · exact endMuster_channelView _ _
  · rfl

@[simp] theorem answerClaim_channelView (x : Serial) (s : State) : (answerClaim x s).channelView = s.channelView := by
  unfold answerClaim
  split
  · rfl
  · split
    · rfl
    · split <;> rfl

@[simp] theorem maintenanceSlot_channelView (s : State) : (maintenanceSlot s).channelView = s.channelView := by
  unfold maintenanceSlot
  split
  · rfl
  · split
    · rfl
    · exact completeHead_channelView _ _ _

@[simp] theorem askAfter_channelView (a : Nat) (s : State) : (askAfter a s).channelView = s.channelView := by
  unfold askAfter
  split
  · rfl
  · exact maintenanceSlot_channelView s

@[simp] theorem undelivered_channelView (f : LineFrame) (s : State) :
    (undelivered f s).channelView = s.channelView := by
  cases f with
  | muster => rfl
  | claim => exact endRound_channelView _ _
  | name x a =>
    unfold undelivered
    dsimp only
    split
    · exact endRound_channelView _ _
    · rfl
  | park x =>
    unfold undelivered
    dsimp only
    split
    · exact endRound_channelView _ _
    · rfl
  | set points => exact askAfter_channelView _ _
  | ask a => exact askAfter_channelView _ _
  | mreq a w i v => rfl
  | call => rfl
  | leave a => rfl

@[simp] theorem resumeCut_channelView (s : State) : (resumeCut s).channelView = s.channelView := by
  unfold resumeCut
  split <;> rfl

@[simp] theorem testExhaustion_channelView (s : State) : (testExhaustion s).channelView = s.channelView := by
  rw [testExhaustion_eq]
  rfl

@[simp] theorem countReport_channelView (s : State) : (countReport s).channelView = s.channelView := by
  rw [countReport_frame]
  rfl

end Sys2Proof.Machine

namespace Sys2Proof.Machine

open Sys2Proof

/-! ## What can happen to one channel -/

/-- Everything that can happen to one channel under a device mode and a parameter set that stand (R121 to R137). -/
inductive ChannelChange (mode : Mode) (p : Params) (c : Channel) : Channel → Prop where
  | stands : ChannelChange mode p c c
  /-- A STAT is recorded, its angle clamped (R131, R145). -/
  | record (angle : Int) (cond : NodeCond) (flags : NodeFlags) (h : angle.natAbs ≤ 12000) :
      ChannelChange mode p c (c.record angle cond flags)
  /-- The set-point is sent, or the node flags are emptied (R138, R139). -/
  | noted (sent : Int) (flags : NodeFlags) : ChannelChange mode p c { c with sent := sent, flags := flags }
  /-- The tracking test counts (R132). -/
  | counted (n : Nat) (h : c.trackCount ≤ Config.trackingCeiling → n ≤ Config.trackingCeiling) :
      ChannelChange mode p c { c with trackCount := n }
  /-- The fault is reported (R136). -/
  | reported : ChannelChange mode p c { c with unreported := false }
  | returned : ChannelChange mode p c c.toReturning
  | gathered (kind : FaultKind) (h : c.state = .failed) :
      ChannelChange mode p c { c with faults := c.faults.add kind, unreported := true }
  | fails (kind : FaultKind) (h : c.state ≠ .failed) : ChannelChange mode p c (c.toFailed kind)
  | cleared : ChannelChange mode p c c.cleared
  | unbound : ChannelChange mode p c c.toAbsent
  | bound : ChannelChange mode p c c.toBound
  /-- A target list arrives (R125). -/
  | arrived (allowed : Bool) (target : Int) (h : allowed = true → mode = .active) :
      ChannelChange mode p c (arrive p allowed target c)

/-- The moves that every step is made of, as far as the channels, the mode and the parameters go;
`step_channelMoves` says so. -/
inductive ChannelMove (s t : State) : Prop where
  /-- Channels change under the mode and the parameters. -/
  | change (mode : t.ctl.mode = s.ctl.mode) (params : t.params = s.params)
      (chans : ∀ d ∈ t.chans, ∃ c ∈ s.chans, ChannelChange s.ctl.mode s.params c d)
  /-- The mode changes over channels that stand: to ACTIVE, or between the modes without FOLLOWING cars, to SETUP only
  without a RETURNING car (R21, R22, R25, R27). -/
  | mode (params : t.params = s.params) (chans : t.chans = s.chans)
      (h : t.ctl.mode = .active ∨
        (s.ctl.mode ≠ .active ∧ (t.ctl.mode = .setup → ∀ c ∈ s.chans, c.state ≠ .returning)))
  /-- Tilt is withdrawn: the FOLLOWING cars return (R26, R29, R31). -/
  | withdrawn (mode : t.ctl.mode ≠ .setup) (params : t.params = s.params)
      (chans : t.chans = s.chans.map Channel.toReturning)
  /-- A parameter set is taken in SETUP (R10). -/
  | params (setup : s.ctl.mode = .setup) (mode : t.ctl.mode = .setup) (chans : t.chans = s.chans)
  /-- The channels are those of a new formation, or there are none (R6, R35, R121). -/
  | fresh (chans : ∀ d ∈ t.chans, ∃ car, d = Channel.ofCar car)

/-- One such move after another. -/
def ChannelMoves : State → State → Prop := Relation.ReflTransGen ChannelMove

/-- The tracking-error count is held at its ceiling (R132). -/
theorem nextTrackCount_le {c : Channel} (p : Params) (a : Int) (h : c.trackCount ≤ Config.trackingCeiling) :
    nextTrackCount p c a ≤ Config.trackingCeiling := by
  unfold nextTrackCount
  split
  · exact countUp_le h
  · exact Nat.zero_le _

namespace ChannelMoves

theorem refl {s : State} : ChannelMoves s s := Relation.ReflTransGen.refl

theorem of_move {s t : State} (h : ChannelMove s t) : ChannelMoves s t := Relation.ReflTransGen.single h

theorem trans {s t u : State} (h : ChannelMoves s t) (g : ChannelMoves t u) : ChannelMoves s u :=
  Relation.ReflTransGen.trans h g

/-- Nothing that the laws read changes. -/
theorem beside {s t : State} (h : t.channelView = s.channelView) : ChannelMoves s t := by
  simp only [State.channelView, Prod.mk.injEq] at h
  obtain ⟨mode, params, chans⟩ := h
  exact of_move (.change mode params fun d hd => ⟨d, chans ▸ hd, .stands⟩)

/-- Moves, and then a change beside the channels. -/
theorem andBeside {s t u : State} (h : ChannelMoves s t) (e : u.channelView = t.channelView) : ChannelMoves s u :=
  h.trans (beside e)

/-- A part without channels has none to keep within a law. -/
theorem ofNone {s t : State} (h : t.chans = []) : ChannelMoves s t := of_move (.fresh (by simp [h]))

/-! ### The shapes of a change -/

/-- Every channel changes. -/
theorem map {s : State} (g : Channel → Channel) (h : ∀ c ∈ s.chans, ChannelChange s.ctl.mode s.params c (g c)) :
    ChannelMoves s (s.setChans (s.chans.map g)) :=
  of_move (.change rfl rfl fun d hd => by
    obtain ⟨c, hc, rfl⟩ := List.mem_map.1 hd
    exact ⟨c, hc, h c hc⟩)

/-- Every channel changes by its place. -/
theorem mapIdx {s : State} (g : Nat → Channel → Channel)
    (h : ∀ k, ∀ c ∈ s.chans, ChannelChange s.ctl.mode s.params c (g k c)) :
    ChannelMoves s (s.setChans (s.chans.mapIdx g)) :=
  of_move (.change rfl rfl fun d hd => by
    obtain ⟨k, hk, rfl⟩ := List.mem_mapIdx.1 hd
    exact ⟨_, List.getElem_mem hk, h k _ (List.getElem_mem hk)⟩)

/-- One channel is replaced. -/
theorem set {s : State} {k : Nat} {c : Channel} (hc : s.chans[k]? = some c) {d : Channel}
    (h : ChannelChange s.ctl.mode s.params c d) : ChannelMoves s (s.setChans (s.chans.set k d)) :=
  of_move (.change rfl rfl fun e he => by
    rcases List.mem_or_eq_of_mem_set he with he | rfl
    · exact ⟨e, he, .stands⟩
    · exact ⟨c, List.mem_of_getElem? hc, h⟩)

/-- One channel changes. -/
theorem modify {s : State} (k : Nat) (g : Channel → Channel)
    (h : ∀ c ∈ s.chans, ChannelChange s.ctl.mode s.params c (g c)) :
    ChannelMoves s (s.setChans (s.chans.modify k g)) :=
  of_move (.change rfl rfl fun d hd => by
    obtain ⟨j, hj⟩ := List.getElem?_of_mem hd
    rw [State.setChans_chans, List.getElem?_modify, Option.map_eq_map, Option.map_eq_some_iff] at hj
    obtain ⟨c, hc, rfl⟩ := hj
    refine ⟨c, List.mem_of_getElem? hc, ?_⟩
    split
    · exact h c (List.mem_of_getElem? hc)
    · exact .stands)

/-- The FOLLOWING cars return while the mode stands (R127). -/
theorem returnAll (s : State) : ChannelMoves s (returnAll s) := map _ fun _ _ => .returned

/-! ### The faults of a car and its binding -/

theorem addFault (k : Nat) (kind : FaultKind) (s : State) : ChannelMoves s (addFault k kind s) := by
  rcases addFault_cases k kind s with ⟨-, e⟩ | ⟨c, hc, failed, -, e⟩ | ⟨c, hc, working, -, e⟩ <;> rw [e]
  · exact refl
  · exact (set hc (.gathered kind failed)).andBeside rfl
  · have fails : ChannelMoves s (s.setChans (s.chans.set k (c.toFailed kind))) := set hc (.fails kind working)
    split
    · exact (fails.trans (returnAll _)).andBeside rfl
    · exact fails.andBeside rfl

theorem loseNode (k : Nat) (s : State) : ChannelMoves s (loseNode k s) :=
  (beside (unbind_channelView k s)).trans (addFault _ _ _)

theorem bindCar (k : Nat) (x : Serial) (s : State) : ChannelMoves s (bindCar k x s) :=
  (modify k Channel.toBound fun _ _ => .bound).andBeside rfl

theorem clearUnreported (s : State) : ChannelMoves s (clearUnreported s) := map _ fun _ _ => .reported

/-! ### The channel unit -/

theorem takeTargets (s : State) : ChannelMoves s (takeTargets s) := by
  unfold Machine.takeTargets
  split
  · exact refl
  · next l _ =>
    have allowed : entryAllowed s = true → s.ctl.mode = .active := fun h => by
      simp only [entryAllowed, Bool.and_eq_true, beq_iff_eq] at h
      exact h.1
    exact (mapIdx (fun k c => arrive s.params (entryAllowed s) (targetFor l k) c)
      fun k c _ => .arrived _ _ allowed).andBeside rfl

theorem trackingTest (k : Nat) (s : State) : ChannelMoves s (trackingTest k s) := by
  unfold Machine.trackingTest
  split
  · exact refl
  · next c hc =>
    split
    · exact refl
    · next a _ =>
      split
      · have counted : ChannelMoves s
            (s.setChans (s.chans.set k { c with trackCount := nextTrackCount s.params c a })) :=
          set hc (.counted _ (nextTrackCount_le s.params a))
        dsimp only
        split
        · exact counted.trans (addFault _ _ _)
        · exact counted
      · exact refl

theorem testTracking (k : Nat) (s : State) : ChannelMoves s (testTracking k s) := by
  unfold Machine.testTracking
  split
  · exact trackingTest _ _
  · exact refl

theorem takeStat (k : Nat) {angle : Int} (cond : NodeCond) (flags : NodeFlags) (s : State)
    (h : angle.natAbs ≤ 12000) : ChannelMoves s (takeStat k angle cond flags s) := by
  have recorded : ChannelMoves s (s.setChans (s.chans.modify k (fun c => c.record angle cond flags))) :=
    modify k _ fun _ _ => .record angle cond flags h
  unfold Machine.takeStat
  refine recorded.trans (andBeside ?_ (State.reevaluate_channelView _))
  split
  · exact addFault _ _ _
  · refine (trackingTest k _).trans ?_
    unfold notReadyTest
    split
    · exact modify k _ fun _ _ => .returned
    · exact refl

theorem handleClearCarFault (tag car : Byte) (s : State) : ChannelMoves s (handleClearCarFault tag car s) := by
  unfold Machine.handleClearCarFault
  dsimp only
  split
  · exact beside rfl
  · split
    · exact beside rfl
    · next c hc =>
      split
      · exact beside rfl
      · exact (set hc .cleared).andBeside rfl

theorem handleQueryCar (tag car : Byte) (s : State) : ChannelMoves s (handleQueryCar tag car s) := by
  unfold Machine.handleQueryCar
  dsimp only
  split
  · exact beside rfl
  · split
    · next c _ hc _ => exact (set hc (.noted c.sent noNodeFlags)).andBeside rfl
    · exact beside rfl

/-! ### The mode controller -/

theorem handleCommission (tag : Byte) {s : State} (mode : s.ctl.mode = .setup) :
    ChannelMoves s (handleCommission tag s) := by
  unfold Machine.handleCommission
  split
  · exact of_move (.mode rfl rfl (.inr ⟨by simp [mode], nofun⟩))
  · exact beside rfl

/-- SETUP is entered from STANDBY, and only while no car is RETURNING (R22). -/
theorem handleReturnToSetup (tag : Byte) {s : State} (mode : s.ctl.mode = .standby) :
    ChannelMoves s (handleReturnToSetup tag s) := by
  unfold Machine.handleReturnToSetup
  split
  · exact beside rfl
  · next still =>
    exact of_move (.mode rfl rfl (.inr ⟨by simp [mode],
      fun _ c hc returning => still ((anyReturning_iff s).2 ⟨c, hc, returning⟩)⟩))

theorem handleStartRun (tag : Byte) (origin : Word) (s : State) : ChannelMoves s (handleStartRun tag origin s) := by
  unfold Machine.handleStartRun
  split <;> exact beside rfl

theorem enterActive (s : State) : ChannelMoves s (enterActive s) := of_move (.mode rfl rfl (.inl rfl))

theorem handleEnableTilt (tag : Byte) (s : State) : ChannelMoves s (handleEnableTilt tag s) := by
  unfold Machine.handleEnableTilt
  split
  · exact beside rfl
  · split
    · exact beside rfl
    · exact (enterActive s).andBeside rfl

theorem handleResumeTilt (tag : Byte) (s : State) : ChannelMoves s (handleResumeTilt tag s) := by
  unfold Machine.handleResumeTilt
  split
  · exact beside rfl
  · exact (enterActive s).andBeside rfl

theorem handleDisableTilt (tag : Byte) (s : State) : ChannelMoves s (handleDisableTilt tag s) :=
  of_move (.withdrawn nofun rfl rfl)

theorem acceptAsserted (s : State) : ChannelMoves s (acceptAsserted s) := by
  unfold Machine.acceptAsserted
  dsimp only
  split
  · exact of_move (.withdrawn nofun rfl rfl)
  · exact beside rfl

theorem sampleInhibit (asserted : Bool) (s : State) : ChannelMoves s (sampleInhibit asserted s) := by
  unfold Machine.sampleInhibit
  split
  · exact beside rfl
  · split
    · exact beside rfl
    · split
      · exact acceptAsserted s
      · exact beside rfl

theorem inhibitAsserted (s : State) : ChannelMoves s (inhibitAsserted s) := by
  unfold Machine.inhibitAsserted
  split
  · exact refl
  · exact acceptAsserted s

theorem inhibitReleased (s : State) : ChannelMoves s (inhibitReleased s) := by
  unfold Machine.inhibitReleased
  split <;> exact beside rfl

/-! ### The formation and the parameters -/

theorem loadFormation (cars : List Car) (s : State) : ChannelMoves s (loadFormation cars s) :=
  of_move (.fresh fun d hd => by
    obtain ⟨car, -, rfl⟩ := List.mem_map.1 hd
    exact ⟨car, rfl⟩)

theorem handleSetFormation (tag count : Byte) (records : List CarWire) (s : State) :
    ChannelMoves s (handleSetFormation tag count records s) := by
  unfold Machine.handleSetFormation
  split
  · exact beside rfl
  · split
    · exact beside rfl
    · exact (loadFormation _ s).andBeside rfl

theorem handleSetParameters (tag : Byte) (v : Vector Word 28) {s : State} (mode : s.ctl.mode = .setup) :
    ChannelMoves s (handleSetParameters tag v s) := by
  have taken : ChannelMoves s (s.setParams (paramsOf v)) := of_move (.params mode mode rfl)
  unfold Machine.handleSetParameters
  split
  · exact beside rfl
  · dsimp only
    split <;> exact taken.andBeside rfl

/-! ### The planner -/

theorem computePlan (s : State) : ChannelMoves s (computePlan s) := by
  unfold Machine.computePlan
  split
  · exact beside (by simp [deliverTargets])
  · exact refl

theorem hearReport (s : State) : ChannelMoves s (hearReport s) := by
  unfold Machine.hearReport
  split
  · exact beside (countReport_channelView s)
  · exact refl

/-! ### The car line: halts and musters -/

theorem haltCars (ks : List Nat) (s : State) : ChannelMoves s (ks.foldl haltCar s) := by
  induction ks generalizing s with
  | nil => exact refl
  | cons k ks ih =>
    refine trans ?_ (ih _)
    unfold haltCar
    split
    · exact addFault _ _ _
    · exact refl

theorem reportHalt (s : State) : ChannelMoves s (reportHalt s) := by
  unfold Machine.reportHalt
  split
  · exact of_move (.withdrawn nofun rfl rfl)
  · exact refl

theorem haltLine (s : State) : ChannelMoves s (haltLine s) := by
  have stopped : ChannelMoves s
      (s.setLine { s.line with state := .halted, echoCount := 0, exch := .quiet }).reevaluate := beside rfl
  have flushed (u : State) : ChannelMoves u (flushMaintenance u) := beside rfl
  exact ((((stopped.trans (haltCars _ _)).trans (flushed _)).andBeside
    (completeRollCall_channelView _ _ _)).trans (reportHalt _)).andBeside
      ((State.reevaluate_channelView _).trans (State.raise_channelView _ _ _))

theorem haltCarrying (s : State) : ChannelMoves s (haltCarrying s) := by
  unfold Machine.haltCarrying
  split
  · exact (beside (countMismatch_channelView s)).trans (haltLine _)
  · exact refl

theorem hearMusterEnd (s : State) : ChannelMoves s (hearMusterEnd s) := by
  unfold Machine.hearMusterEnd
  split
  · exact beside (endMuster_channelView _ _)
  · exact refl

theorem handleRollCall (tag : Byte) (s : State) : ChannelMoves s (handleRollCall tag s) := by
  have sent (u : State) : (sendMuster u).channelView = u.channelView := by
    unfold sendMuster
    split <;> rfl
  have started : ChannelMoves s (startMuster tag s) :=
    (map Channel.toAbsent fun _ _ => .unbound).andBeside
      (((State.reevaluate_channelView _).trans (sent _)).trans rfl)
  unfold Machine.handleRollCall
  split
  · exact beside rfl
  · split
    · exact beside rfl
    · split
      · exact beside rfl
      · exact started

theorem hearRound (outcome : ClaimOutcome) (s : State) : ChannelMoves s (hearRound outcome s) := by
  unfold Machine.hearRound
  split
  · cases outcome with
    | noClaim => exact beside (endMuster_channelView _ _)
    | garbled => exact beside (endRound_channelView _ _)
    | claim x => exact beside (answerClaim_channelView _ _)
  · exact refl

/-! ### The line cycle and the CALL window -/

theorem startCycle (s : State) : ChannelMoves s (startCycle s) := by
  have sampled : ChannelMoves s (takeSnapshot s) := mapIdx _ fun k c _ => by
    split
    · exact .noted c.theta c.flags
    · exact .stands
  unfold Machine.startCycle
  split
  · exact sampled.andBeside rfl
  · exact refl

theorem goodStat (a : Nat) (angle : Int) (cond : NodeCond) (flags : NodeFlags) (accel : Option Int) (s : State) :
    ChannelMoves s (goodStat a angle cond flags accel s) := by
  have clamped : (clampAbs angle Config.angleLimit).natAbs ≤ 12000 := clampAbs_natAbs_le angle 12000
  have sampled (u : State) : (takeSample accel u).channelView = u.channelView := by
    unfold takeSample
    split
    · dsimp only
      split <;> rfl
    · rfl
  unfold Machine.goodStat
  split
  · dsimp only
    have heard := (beside (s := s) (State.setLine_channelView s
      { s.line with nodes := s.line.nodes.modify (a - 1) (fun n => { n with miss := 0 }) })).trans
        (takeStat (a - 1) cond flags _ clamped)
    split
    · exact heard.andBeside (sampled _)
    · exact heard
  · exact refl

theorem missAt (a : Nat) (s : State) : ChannelMoves s (missAt a s) := by
  unfold Machine.missAt
  split
  · dsimp only
    split
    · exact refl
    · split
      · exact loseNode _ _
      · exact beside rfl
  · exact refl

theorem noReply (s : State) : ChannelMoves s (noReply s) := by
  unfold Machine.noReply
  split
  · exact (missAt _ _).andBeside (askAfter_channelView _ _)
  · exact (beside (completeHead_channelView _ _ _)).andBeside rfl
  · exact beside rfl
  all_goals exact refl

theorem hearStat (address : Nat) (angle : Int) (cond : NodeCond) (flags : NodeFlags) (accel : Option Int)
    (s : State) : ChannelMoves s (hearStat address angle cond flags accel s) := by
  unfold Machine.hearStat
  split
  · exact (goodStat _ _ _ _ _ _).andBeside (askAfter_channelView _ _)
  · exact noReply s

theorem hearNodeLost (car : Nat) (s : State) : ChannelMoves s (hearNodeLost car s) := by
  unfold Machine.hearNodeLost
  split
  · split
    · exact (loseNode _ _).andBeside (askAfter_channelView _ _)
    · exact loseNode _ _
  · exact refl

theorem hearMrsp (address : Nat) (accepted : Bool) (value : Half) (s : State) :
    ChannelMoves s (hearMrsp address accepted value s) := by
  unfold Machine.hearMrsp
  split
  · exact (beside (completeHead_channelView _ _ _)).andBeside rfl
  · exact noReply s

theorem hearAlrt (address : Nat) (kind : AlertKind) (detail : Half) (s : State) :
    ChannelMoves s (hearAlrt address kind detail s) := by
  unfold Machine.hearAlrt answerAlert
  split
  · split
    · split <;> exact beside rfl
    · exact beside rfl
  · exact noReply s

theorem answerJoin (x : Serial) (s : State) : ChannelMoves s (answerJoin x s) := by
  unfold Machine.answerJoin
  split
  · dsimp only
    split
    · exact ((beside (unbind_channelView _ s)).trans (addFault _ _ _)).andBeside rfl
    · exact beside rfl
  · dsimp only
    split <;> exact beside rfl

theorem hearKey (key : WindowKey) (s : State) : ChannelMoves s (hearKey key s) := by
  unfold Machine.hearKey
  split
  · cases key with
    | noCall => exact beside rfl
    | garbled => exact beside rfl
    | alert a => exact beside rfl
    | join x => exact answerJoin x s
  · exact refl

/-! ### The echo check -/

theorem keepAlert (k : Nat) (kind : AlertKind) (detail : Half) (s : State) :
    ChannelMoves s (keepAlert k kind detail s) := by
  unfold Machine.keepAlert
  dsimp only
  split
  · exact (beside (by simp)).trans (addFault _ _ _)
  · exact beside (by simp)

theorem nodeJoined (x : Serial) (a : Nat) (s : State) : ChannelMoves s (nodeJoined x a s) := by
  unfold Machine.nodeJoined
  split
  · exact (bindCar _ _ _).andBeside rfl
  · exact beside rfl

theorem nodeNamed (x : Serial) (a : Nat) (s : State) : ChannelMoves s (nodeNamed x a s) := by
  unfold Machine.nodeNamed
  split
  · split
    · exact refl
    · exact bindCar _ _ _
  · exact beside rfl

theorem delivered (f : LineFrame) (s : State) : ChannelMoves s (delivered f s) := by
  unfold Machine.delivered
  split
  · exact beside rfl
  · exact beside rfl
  · split
    · exact (nodeNamed _ _ _).andBeside (endRound_channelView _ _)
    · exact (nodeJoined _ _ _).andBeside rfl
  · next x =>
    split
    · exact (beside (parkSerial_channelView x s)).andBeside (endRound_channelView _ _)
    · exact (beside (parkSerial_channelView x s)).andBeside rfl
  · exact beside (askAfter_channelView _ s)
  all_goals exact beside rfl

theorem echoMatched (s : State) : ChannelMoves s (echoMatched s) := by
  have matched : ChannelMoves s (s.setLine { s.line with echoCount := 0 }) := beside rfl
  unfold Machine.echoMatched
  dsimp only
  split
  · exact matched.trans (delivered _ _)
  · exact (matched.trans (keepAlert _ _ _ _)).andBeside rfl
  · exact matched.andBeside rfl
  · exact matched.andBeside (resumeCut_channelView _)
  all_goals exact refl

theorem echoMismatched (s : State) : ChannelMoves s (echoMismatched s) := by
  have counted : ChannelMoves s (countMismatch s) := beside rfl
  have halted := counted.trans (haltLine _)
  unfold Machine.echoMismatched
  dsimp only
  split
  · split
    · exact halted
    · exact counted.andBeside (undelivered_channelView _ _)
  · split
    · exact halted
    · exact counted.andBeside rfl
  · split
    · exact halted
    · exact counted.andBeside (resumeCut_channelView _)
  all_goals exact refl

theorem hearEcho (isMatch : Bool) (s : State) : ChannelMoves s (hearEcho isMatch s) := by
  cases isMatch
  · exact echoMismatched s
  · exact echoMatched s

theorem handleNodeTransfer (tag car direction item : Byte) (value : Half) (s : State) :
    ChannelMoves s (handleNodeTransfer tag car direction item value s) := by
  unfold Machine.handleNodeTransfer
  dsimp only
  split
  · exact beside rfl
  · split
    · exact beside rfl
    · split
      · exact beside rfl
      · split <;> exact beside rfl

/-! ### The odometer -/

theorem decodePulse (n : TachoName) (levels : Pair) (s : State) : ChannelMoves s (decodePulse n levels s) := by
  cases n <;> exact beside rfl

theorem failTacho (n : TachoName) (s : State) : ChannelMoves s (failTacho n s) := by
  unfold Machine.failTacho
  split <;> exact beside rfl

theorem takeSlot (s : State) : ChannelMoves s (takeSlot s) :=
  beside (State.channelView_of_train (takeSlot_train s) (takeSlot_ctl s))

theorem acceptHigh (s : State) : ChannelMoves s (acceptHigh s) := by
  unfold Machine.acceptHigh captureEdge
  split
  · split
    · exact beside (by simp [appendCapture])
    · exact beside rfl
  · exact beside rfl

theorem sampleMarker (isHigh : Bool) (s : State) : ChannelMoves s (sampleMarker isHigh s) := by
  unfold Machine.sampleMarker
  split
  · exact beside rfl
  · split
    · exact beside rfl
    · split
      · exact acceptHigh s
      · exact beside rfl

theorem markerRises (s : State) : ChannelMoves s (markerRises s) := by
  unfold Machine.markerRises
  split
  · exact refl
  · exact acceptHigh s

end ChannelMoves

/-! ## Every step is made of these moves -/

/-- An owner answers a request that the link admits by moves of the channels. -/
theorem serve_channelMoves (tag : Byte) (r : Request) {s : State} (h : admitted r s = true) :
    ChannelMoves s (serve tag r s) := by
  have same {t : State} (train : t.train = s.train) (ctl : t.ctl = s.ctl) : ChannelMoves s t :=
    .beside (State.channelView_of_train train ctl)
  cases r <;> simp only [admitted, Bool.and_eq_true, Bool.or_eq_true, beq_iff_eq, Bool.not_eq_true'] at h
  case commission => exact .handleCommission _ h
  case returnToSetup => exact .handleReturnToSetup _ h.1
  case startRun origin => exact .handleStartRun _ _ _
  case endRun => exact .beside rfl
  case enableTilt => exact .handleEnableTilt _ _
  case disableTilt => exact .handleDisableTilt _ _
  case resumeTilt => exact .handleResumeTilt _ _
  case setParameters v => exact .handleSetParameters _ _ h
  case setFormation count r1 r2 r3 records => exact .handleSetFormation _ _ _ _
  case resolveCapture n r2 r3 x => exact same (handleResolveCapture_train _ _ _ _) (handleResolveCapture_ctl _ _ _ _)
  case openBatch declared => exact same (handleOpenBatch_train _ _ _) (handleOpenBatch_ctl _ _ _)
  case addSegments count r1 r2 r3 records =>
    exact same (handleAddSegments_train _ _ _ _) (handleAddSegments_ctl _ _ _ _)
  case closeBatch count => exact same (handleCloseBatch_train _ _ _) (handleCloseBatch_ctl _ _ _)
  case truncateGeometry x => exact same (handleTruncate_train _ _ _) (handleTruncate_ctl _ _ _)
  case queryCar car => exact .handleQueryCar _ _ _
  case clearCarFault car => exact .handleClearCarFault _ _ _
  case rollCall => exact .handleRollCall _ _
  case nodeTransfer car direction item r3 value => exact .handleNodeTransfer _ _ _ _ _ _
  all_goals exact .beside rfl

/-- An event acts by moves of the channels. -/
theorem event_channelMoves {c : Instr} {f : State → State} (h : eventOf c = some f) (s : State) :
    ChannelMoves s (f s) := by
  cases c <;> simp only [eventOf, Option.some.injEq, reduceCtorEq] at h <;> subst h
  case inhibitSample asserted => exact .sampleInhibit _ _
  case inhibitAsserted => exact .inhibitAsserted _
  case inhibitReleased => exact .inhibitReleased _
  case markerSample isHigh => exact .sampleMarker _ _
  case markerRisingEdge => exact .markerRises _
  case pulseDecode channel levels => exact .decodePulse _ _ _
  case odometrySlot => exact .takeSlot _
  case tachoFailed channel => exact .failTacho _ _
  case plannerComputation => exact .computePlan _
  case telemetryCountdown => exact .hearReport _
  case targetListArrival => exact .takeTargets _
  case lineCycle => exact .startCycle _
  case frameEcho isMatch => exact .hearEcho _ _
  case lineHalt => exact .haltCarrying _
  case stat => exact .hearStat _ _ _ _ _ _
  case tracking car => exact .testTracking _ _
  case replySilence => exact .noReply _
  case nodeLost car => exact .hearNodeLost _ _
  case mrsp => exact .hearMrsp _ _ _ _
  case claimRound outcome => exact .hearRound _ _
  case musterEnd => exact .hearMusterEnd _
  case contentionKey key => exact .hearKey _ _
  case alrt => exact .hearAlrt _ _ _ _

/-- Whatever a step does to the channels, the mode and the parameters is made of these moves. -/
theorem step_channelMoves {s t : State} (h : step s = .next t) : ChannelMoves s t :=
  KeptByParts.step (P := ChannelMoves s)
    { queue := fun _ _ m => m.andBeside rfl
      reset := fun _ q pins m => m.trans (.ofNone (t := State.afterReset q pins) rfl)
      held := fun u m => m.trans (.ofNone (t := holdInReset u) rfl)
      link := fun _ _ m => m.andBeside rfl
      reported := fun _ m => m.trans (.clearUnreported _)
      serve := fun tag r _ _ ha _ m => m.trans (serve_channelMoves tag r ha)
      event := fun _ _ u he m => m.trans (event_channelMoves he u) } .refl h

/-! ## The set-points within their limits (R120, R126, R129, R130, R145) -/

/-- What ChannelLaw says of one channel under a mode and a parameter set. -/
structure Channel.WithinLimits (mode : Mode) (p : Params) (c : Channel) : Prop where
  rests : c.state ≠ .following → c.state ≠ .returning → c.theta = 0 ∧ c.step = 0
  follows : c.state = .following → mode = .active
  stays : mode = .setup → c.state ≠ .returning
  theta : c.theta.natAbs ≤ p.thetaMax
  step : c.step.natAbs ≤ p.sMax
  angle : ∀ a, c.angle = some a → a.natAbs ≤ 12000

theorem channelLaw_iff (s : State) : ChannelLaw s ↔ ∀ c ∈ s.chans, c.WithinLimits s.ctl.mode s.params := by
  constructor
  · rintro ⟨rests, follows, stays, theta, step, angle⟩ c hc
    exact ⟨rests c hc, follows c hc, fun mode => stays mode c hc, theta c hc, step c hc, angle c hc⟩
  · intro h
    exact ⟨fun c hc => (h c hc).rests, fun c hc => (h c hc).follows, fun mode c hc => (h c hc).stays mode,
      fun c hc => (h c hc).theta, fun c hc => (h c hc).step, fun c hc => (h c hc).angle⟩

theorem Mode.active_ne_setup {m : Mode} (h : m = .active) : m ≠ .setup := by simp [h]

namespace Channel.WithinLimits

variable {mode : Mode} {p : Params} {c : Channel}

/-- A channel at rest at 0 is within every limit, in every mode. -/
theorem ofRest {mode : Mode} {p : Params} {c : Channel} (following : c.state ≠ .following)
    (returning : c.state ≠ .returning) (theta : c.theta = 0) (step : c.step = 0)
    (angle : ∀ a, c.angle = some a → a.natAbs ≤ 12000) : c.WithinLimits mode p :=
  ⟨fun _ _ => ⟨theta, step⟩, fun h => absurd h following, fun _ => returning, by simp [theta], by simp [step], angle⟩

/-- What a channel records beside its state, its set-point and its angle does not count. -/
theorem congr {d : Channel} (h : c.WithinLimits mode p) (state : d.state = c.state) (theta : d.theta = c.theta)
    (step : d.step = c.step) (angle : ∀ a, d.angle = some a → a.natAbs ≤ 12000) : d.WithinLimits mode p := by
  obtain ⟨rests, follows, stays, high, fast, -⟩ := h
  refine ⟨?_, ?_, ?_, ?_, ?_, angle⟩
  · rwa [state, theta, step]
  · rwa [state]
  · rwa [state]
  · rwa [theta]
  · rwa [step]

/-- A FOLLOWING car exists in ACTIVE, so that its return leaves SETUP without a RETURNING car. -/
theorem toReturning (h : c.WithinLimits mode p) : c.toReturning.WithinLimits mode p := by
  unfold Channel.toReturning
  split
  · next following =>
    have active := h.follows following
    exact ⟨fun _ no => absurd rfl no, nofun, fun setup => absurd setup (Mode.active_ne_setup active), h.theta, h.step, h.angle⟩
  · exact h

/-- A limiter pass of a car that may move leaves it within its limits (R130). -/
theorem pass (target : Int) (follows : c.state = .following → mode = .active)
    (stays : mode = .setup → c.state ≠ .returning) (moving : c.state = .following ∨ c.state = .returning)
    (theta : c.theta.natAbs ≤ p.thetaMax) (step : c.step.natAbs ≤ p.sMax)
    (angle : ∀ a, c.angle = some a → a.natAbs ≤ 12000) : (limiterPass p target c).WithinLimits mode p :=
  ⟨fun nf nr => (moving.elim nf nr).elim, follows, stays, limiterPass_theta_le p target c,
    limiterPass_rate p target theta step, angle⟩

theorem arrive (h : c.WithinLimits mode p) {allowed : Bool} (active : allowed = true → mode = .active)
    (target : Int) : (Machine.arrive p allowed target c).WithinLimits mode p := by
  unfold Machine.arrive
  split
  · split
    · next fit =>
      have active := active (Bool.and_eq_true_iff.1 fit).1
      exact pass target (fun _ => active) (fun setup => absurd setup (Mode.active_ne_setup active)) (.inl rfl)
        (Nat.zero_le _) (Nat.zero_le _) h.angle
    · exact h
  · next following => exact pass target h.follows h.stays (.inl following) h.theta h.step h.angle
  · next returning =>
    unfold Channel.settle
    split
    · next rest => exact ofRest nofun nofun rest.1 rest.2 h.angle
    · exact pass 0 h.follows h.stays (.inr returning) h.theta h.step h.angle
  all_goals exact h

/-- Whatever happens to a channel leaves it within its limits. -/
theorem change {d : Channel} (h : c.WithinLimits mode p) (m : ChannelChange mode p c d) :
    d.WithinLimits mode p := by
  cases m with
  | stands => exact h
  | record angle cond flags small => exact h.congr rfl rfl rfl fun a e => Option.some.inj e ▸ small
  | noted sent flags => exact h.congr rfl rfl rfl h.angle
  | counted n _ => exact h.congr rfl rfl rfl h.angle
  | reported => exact h.congr rfl rfl rfl h.angle
  | returned => exact h.toReturning
  | gathered kind _ => exact h.congr rfl rfl rfl h.angle
  | fails kind _ => exact ofRest nofun nofun rfl rfl h.angle
  | cleared => exact ofRest nofun nofun rfl rfl h.angle
  | unbound =>
    unfold Channel.toAbsent
    split
    · exact h.congr rfl rfl rfl h.angle
    · exact ofRest nofun nofun rfl rfl h.angle
  | bound =>
    refine ofRest ?_ ?_ rfl rfl nofun <;>
    · unfold Channel.toBound
      dsimp only
      split <;> exact nofun
  | arrived allowed target active => exact h.arrive active target

end Channel.WithinLimits

/-- Each move of the channels keeps them within their limits: in SETUP they rest, so that any parameters may come. -/
theorem ChannelMove.keeps_limits {s t : State} (m : ChannelMove s t) (law : ChannelLaw s) : ChannelLaw t := by
  rw [channelLaw_iff] at *
  cases m with
  | change mode params chans =>
    intro d hd
    obtain ⟨c, hc, change⟩ := chans d hd
    rw [mode, params]
    exact (law c hc).change change
  | mode params chans h =>
    intro c hc
    rw [chans] at hc
    rw [params]
    obtain ⟨rests, follows, -, theta, step, angle⟩ := law c hc
    rcases h with active | ⟨still, setup⟩
    · exact ⟨rests, fun _ => active, fun setup => absurd setup (Mode.active_ne_setup active), theta, step, angle⟩
    · exact ⟨rests, fun following => absurd (follows following) still, fun entered => setup entered c hc, theta, step, angle⟩
  | withdrawn mode params chans =>
    intro d hd
    rw [chans] at hd
    obtain ⟨c, hc, rfl⟩ := List.mem_map.1 hd
    obtain ⟨rests, -, -, theta, step, angle⟩ := (law c hc).toReturning
    rw [params]
    refine ⟨rests, fun following => ?_, fun entered => absurd entered mode, theta, step, angle⟩
    unfold Channel.toReturning at following
    split at following
    · cases following
    · next other => exact absurd following other
  | params setup mode chans =>
    intro c hc
    rw [chans] at hc
    obtain ⟨rests, follows, stays, -, -, angle⟩ := law c hc
    have following : c.state ≠ .following := fun h => Mode.active_ne_setup (follows h) setup
    obtain ⟨theta, step⟩ := rests following (stays setup)
    exact .ofRest following (stays setup) theta step angle
  | fresh chans =>
    intro d hd
    obtain ⟨car, rfl⟩ := chans d hd
    refine .ofRest ?_ ?_ rfl rfl nofun <;>
    · unfold Channel.ofCar
      dsimp only
      split <;> exact nofun

/-- What every move of the channels keeps, every step keeps. -/
theorem ChannelMoves.keeps {P : State → Prop} (move : ∀ s t, ChannelMove s t → P s → P t) {s t : State}
    (m : ChannelMoves s t) (h : P s) : P t := by
  induction m with
  | refl => exact h
  | tail _ last ih => exact move _ _ last ih

/-- Settles O9: every step is made of moves of the channels, and each keeps them within their limits. -/
theorem stepsKeepSetPointsWithinLimits : Obligations.StepsKeepSetPointsWithinLimits :=
  fun _ _ law h => (step_channelMoves h).keeps (fun _ _ m => m.keeps_limits) law

/-! ## Faults and FAILED cars (R119, R134, R135) -/

/-- What FaultLaw says of one channel. -/
structure Channel.FaultsAgree (c : Channel) : Prop where
  faults : c.state = .failed ↔ c.faults ≠ .empty
  first : c.state = .failed ↔ c.firstFault.isSome = true
  among : ∀ f, c.firstFault = some f → c.faults.has f = true
  unreported : c.unreported = true → c.state = .failed
  count : c.trackCount ≤ Config.trackingCeiling

theorem faultLaw_iff (s : State) : FaultLaw s ↔ ∀ c ∈ s.chans, c.FaultsAgree :=
  ⟨fun law c hc => by
    obtain ⟨faults, first, among, unreported, count⟩ := law c hc
    exact ⟨faults, first, among, unreported, count⟩,
    fun h c hc => ⟨(h c hc).faults, (h c hc).first, (h c hc).among, (h c hc).unreported, (h c hc).count⟩⟩

namespace Channel.FaultsAgree

variable {c d : Channel}

/-- A change of state that neither makes nor ends FAILED leaves the agreement. -/
theorem congr (h : c.FaultsAgree) (failed : d.state = .failed ↔ c.state = .failed) (faults : d.faults = c.faults)
    (first : d.firstFault = c.firstFault) (unreported : d.unreported = true → c.unreported = true)
    (count : d.trackCount ≤ Config.trackingCeiling) : d.FaultsAgree :=
  ⟨by rw [failed, faults, h.faults], by rw [failed, first, h.first], by rw [first, faults]; exact h.among,
    fun u => failed.2 (h.unreported (unreported u)), count⟩

/-- A channel that has no fault and is not FAILED agrees. -/
theorem ofSound (failed : d.state ≠ .failed) (faults : d.faults = .empty) (first : d.firstFault = none)
    (unreported : d.unreported = false) (count : d.trackCount ≤ Config.trackingCeiling) : d.FaultsAgree :=
  ⟨by simp [failed, faults], by simp [failed, first], by simp [first], by simp [unreported], count⟩

/-- A target list makes no car FAILED, and leaves its faults. -/
theorem arrive (h : c.FaultsAgree) (p : Params) (allowed : Bool) (target : Int) :
    (Machine.arrive p allowed target c).FaultsAgree := by
  unfold Machine.arrive
  split
  · next centred =>
    split
    · exact h.congr (by simp [limiterPass, centred]) rfl rfl id h.count
    · exact h
  · exact h.congr Iff.rfl rfl rfl id h.count
  · next returning =>
    unfold Channel.settle
    split
    · exact h.congr (by simp [returning]) rfl rfl id h.count
    · exact h.congr Iff.rfl rfl rfl id h.count
  all_goals exact h

/-- Whatever happens to a channel leaves its faults in agreement with its state. -/
theorem change {mode : Mode} {p : Params} (h : c.FaultsAgree) (m : ChannelChange mode p c d) : d.FaultsAgree := by
  cases m with
  | stands => exact h
  | record angle cond flags _ => exact h.congr Iff.rfl rfl rfl id h.count
  | noted sent flags => exact h.congr Iff.rfl rfl rfl id h.count
  | counted n small => exact h.congr Iff.rfl rfl rfl id (small h.count)
  | reported => exact h.congr Iff.rfl rfl rfl nofun h.count
  | returned =>
    unfold Channel.toReturning
    split
    · next following => exact h.congr (by simp [following]) rfl rfl id h.count
    · exact h
  | gathered kind failed =>
    exact ⟨by simp [failed, FaultSet.add_ne_empty], h.first, fun f hf => by simp [h.among f hf], fun _ => failed,
      h.count⟩
  | fails kind _ =>
    exact ⟨by simp [Channel.toFailed, FaultSet.add_ne_empty], by simp [Channel.toFailed],
      fun f hf => by simp [Channel.toFailed] at hf ⊢; exact .inr hf, fun _ => rfl, Nat.zero_le _⟩
  | cleared => exact ofSound nofun rfl rfl rfl (Nat.zero_le _)
  | unbound =>
    unfold Channel.toAbsent
    split
    · next bare => exact ofSound (by simp [bare]) rfl rfl rfl h.count
    · exact ofSound nofun rfl rfl rfl (Nat.zero_le _)
  | bound =>
    refine h.congr ?_ rfl rfl id (Nat.zero_le _)
    rw [h.faults]
    unfold Channel.toBound
    dsimp only
    split <;> simp_all
  | arrived allowed target _ => exact h.arrive p allowed target

end Channel.FaultsAgree

theorem ChannelMove.keeps_faults {s t : State} (m : ChannelMove s t) (law : FaultLaw s) : FaultLaw t := by
  rw [faultLaw_iff] at *
  cases m with
  | change mode params chans =>
    intro d hd
    obtain ⟨c, hc, change⟩ := chans d hd
    exact (law c hc).change change
  | mode params chans h => rwa [chans]
  | withdrawn mode params chans =>
    intro d hd
    rw [chans] at hd
    obtain ⟨c, hc, rfl⟩ := List.mem_map.1 hd
    exact (law c hc).change (mode := .active) (p := s.params) .returned
  | params setup mode chans => rwa [chans]
  | fresh chans =>
    intro d hd
    obtain ⟨car, rfl⟩ := chans d hd
    refine .ofSound ?_ rfl rfl rfl (Nat.zero_le _)
    unfold Channel.ofCar
    dsimp only
    split <;> exact nofun

/-- Settles O10: every step is made of moves of the channels, and each keeps their faults with FAILED. -/
theorem stepsKeepFaultsWithFailedCars : Obligations.StepsKeepFaultsWithFailedCars :=
  fun _ _ law h => (step_channelMoves h).keeps (fun _ _ m => m.keeps_faults) law

end Sys2Proof.Machine

namespace Sys2Proof.Machine

open Sys2Proof

/-! ## The arrival of a target list (R125, R127, R128) -/

theorem takeTargets_none {s : State} (h : s.plan.delivered = none) : takeTargets s = s := by simp [takeTargets, h]

theorem takeTargets_some {s : State} {l : List Target} (h : s.plan.delivered = some l) :
    takeTargets s =
      ((s.setPlan { s.plan with delivered := none }).setChans
        (s.chans.mapIdx (fun k c => arrive s.params (entryAllowed s) (targetFor l k) c))).reevaluate := by
  simp [takeTargets, h]

/-- Each channel is moved by the arrival at its own place. -/
theorem takeTargets_place {s : State} {l : List Target} {k : Nat} {c : Channel} (h : s.plan.delivered = some l)
    (place : s.chans[k]? = some c) :
    (takeTargets s).chans[k]? = some (arrive s.params (entryAllowed s) (targetFor l k) c) := by
  rw [takeTargets_some h]
  show (s.chans.mapIdx _)[k]? = _
  rw [List.getElem?_mapIdx, place]
  rfl

theorem exec_targetListArrival {s : State} (running : Running s) :
    exec .targetListArrival s = .next (takeTargets s) := by
  refine exec_quiet_event running rfl ?_
  cases h : s.plan.delivered with
  | none => rw [takeTargets_none h]
  | some l => rw [takeTargets_some h]; rfl

section
variable {p : Params} {allowed : Bool} {target : Int} {c : Channel}

theorem arrive_following (h : c.state = .following) : arrive p allowed target c = limiterPass p target c := by
  simp [arrive, h]

theorem arrive_returning (h : c.state = .returning) : arrive p allowed target c = (limiterPass p 0 c).settle := by
  simp [arrive, h]

theorem arrive_enters (h : c.state = .centred) (fit : (allowed && fitToFollow p c) = true) :
    arrive p allowed target c = limiterPass p target { c with state := .following, theta := 0, step := 0 } := by
  simp [arrive, h, fit]

theorem arrive_waits (h : c.state = .centred) (unfit : ¬(allowed && fitToFollow p c) = true) :
    arrive p allowed target c = c := by
  simp [arrive, h, unfit]

end

/-- The conditions of FOLLOWING entry as the model computes them (R125, step 1). -/
theorem entry_iff (s : State) (c : Channel) :
    (entryAllowed s && fitToFollow s.params c) = true ↔
      s.ctl.mode = .active ∧ c.cond = some .ready ∧
        (∃ a, c.angle = some a ∧ a.natAbs ≤ s.params.centreBand) ∧
        (s.params.faultPolicy = .isolated ∨ ∀ d ∈ s.chans, d.state ≠ .failed ∧ d.state ≠ .absent) := by
  have allowed : entryAllowed s = true ↔ s.ctl.mode = .active ∧
      (s.params.faultPolicy = .isolated ∨ ∀ d ∈ s.chans, d.state ≠ .failed ∧ d.state ≠ .absent) := by
    simp [entryAllowed, noneOut]
  have fit : fitToFollow s.params c = true ↔
      c.cond = some .ready ∧ ∃ a, c.angle = some a ∧ a.natAbs ≤ s.params.centreBand := by
    cases h : c.angle <;> simp [fitToFollow, h]
  rw [Bool.and_eq_true, allowed, fit]
  tauto

/-- Settles O48: the arrival at each place, by the state of the channel there. -/
theorem targetListsMoveTheCars : Obligations.TargetListsMoveTheCars := by
  intro s running
  have arrival := exec_targetListArrival running
  refine ⟨fun none => by rw [arrival, takeTargets_none none], fun l list => ⟨_, arrival, ?_, ?_, fun k c place => ?_⟩⟩
  · have level := centreConditions_reevaluate ((s.setPlan { s.plan with delivered := none }).setChans
      (s.chans.mapIdx (fun k c => arrive s.params (entryAllowed s) (targetFor l k) c)))
    rw [takeTargets_some list, level]
    rfl
  · rw [takeTargets_some list]
    exact List.length_mapIdx
  · rw [takeTargets_place list place, ← entry_iff]
    exact ⟨fun still => by rw [arrive_still _ _ _ _ still], fun following => by rw [arrive_following following],
      fun returning => by rw [arrive_returning returning]; rfl,
      fun centred => ⟨fun fit => by rw [arrive_enters centred fit], fun unfit => by rw [arrive_waits centred unfit]⟩⟩

/-! ## The seven steps of a pass (R129) -/

/-- The braking bound is the only b that step 4 allows (R129). -/
theorem brakeBound_unique {d e b : Nat} (allowed : b * (b + d) ≤ 2 * d * e)
    (largest : 2 * d * e < (b + 1) * (b + 1 + d)) : brakeBound d e = b := by
  obtain ⟨allowed', largest'⟩ := brakeBound_spec d e
  have mono {x y : Nat} (h : x < y) : (x + 1) * (x + 1 + d) ≤ y * (y + d) := Nat.mul_le_mul (by omega) (by omega)
  rcases Nat.lt_trichotomy (brakeBound d e) b with low | same | high
  · have := mono low
    omega
  · exact same
  · have := mono high
    omega

/-- The step before the last clamp, with each of its parts named (R129, steps 1 to 5). -/
theorem limitedStep_eq {p : Params} {target theta step e s1 s2 s3 : Int} {b : Nat} (he : e = target - theta)
    (hs1 : s1 = clamp e (step - p.dStep) (step + p.dStep)) (hs2 : s2 = clamp s1 (-p.sMax) p.sMax)
    (allowed : b * (b + p.dStep) ≤ 2 * p.dStep * e.natAbs)
    (largest : 2 * p.dStep * e.natAbs < (b + 1) * (b + 1 + p.dStep))
    (braked : 0 ≤ e → (b : Int) < s2 → s3 = max (b : Int) (step - p.dStep)) (free : 0 ≤ e → s2 ≤ b → s3 = s2)
    (brakedBack : e < 0 → s2 < -(b : Int) → s3 = min (-(b : Int)) (step + p.dStep))
    (freeBack : e < 0 → -(b : Int) ≤ s2 → s3 = s2) : limitedStep p target theta step = s3 := by
  subst he hs1
  unfold limitedStep clampAbs
  dsimp only
  rw [brakeBound_unique allowed largest, ← hs2]
  by_cases forward : 0 ≤ target - theta
  · rw [if_pos forward]
    split
    · next beyond => exact (braked forward beyond).symm
    · next within => exact (free forward (Int.not_lt.1 within)).symm
  · rw [if_neg forward]
    split
    · next beyond => exact (brakedBack (Int.not_le.1 forward) beyond).symm
    · next within => exact (freeBack (Int.not_le.1 forward) (Int.not_lt.1 within)).symm

/-- Settling changes the state of a channel alone (R128). -/
theorem Channel.settle_frame (c : Channel) : c.settle = { c with state := c.settle.state } := by
  unfold Channel.settle
  split <;> rfl

/-- Settles O49: the channel of either kind after its pass, the step put together from its parts. -/
theorem limiterPassesFollowTheirSevenSteps : Obligations.LimiterPassesFollowTheirSevenSteps := by
  intro s l k c g t e s1 s2 s3 b running list place item kind he hs1 hs2 allowed largest braked free brakedBack
    freeBack
  have step := limitedStep_eq he hs1 hs2 allowed largest braked free brakedBack freeBack
  have theta : (limiterPass s.params t c).theta = clamp (c.theta + s3) (-s.params.thetaMax) s.params.thetaMax := by
    rw [← step]; rfl
  have arrival := takeTargets_place list place
  refine ⟨_, _, exec_targetListArrival running, arrival, ?_⟩
  rcases kind with ⟨following, rfl⟩ | ⟨returning, rfl⟩
  · have own : targetFor l k = g.angle := by simp [targetFor, item]
    rw [arrive_following following, own]
    exact ⟨theta, rfl, rfl⟩
  · rw [arrive_returning returning, Channel.settle_frame]
    exact ⟨theta, rfl, rfl⟩

end Sys2Proof.Machine

namespace Sys2Proof.Machine

open Sys2Proof

/-! ## RollCall (R124, R148) -/

/-- MUSTER is sent, or follows the frame that is being sent (R148, step 4; log entry 8). -/
theorem sendMuster_eq (s : State) :
    sendMuster s = setExch (if s.line.exch.cutOff = .cut then .cut else .echo .muster) s := by
  unfold sendMuster
  split <;> rfl

/-- The start of a muster, every block named (R124, R148). -/
theorem startMuster_eq (tag : Byte) (s : State) :
    startMuster tag s =
      { s with
        ctl := { s.ctl with centreOk := false }
        chans := s.chans.map Channel.toAbsent
        line := { s.line with
                  state := .mustering, echoCount := 0, maint := [], parked := [], foreign := .empty,
                  nodes := s.cars.map (fun _ => { serial := none, miss := 0 }),
                  muster := some { tag := tag, round := 0 },
                  exch := if s.line.exch.cutOff = .cut then .cut else .echo .muster }
        link := { s.link with
                  completions :=
                    s.link.completions ++ s.line.maint.map (fun e => transferFrame e .lineStopped 0#16) } } := by
  unfold startMuster
  dsimp only
  rw [sendMuster_eq, State.reevaluate_eq, centreConditions_stopped (show LineState.mustering ≠ .cycling from nofun)]
  rfl

/-- Settles O38: the three checks in order, and then the start of a muster. -/
theorem rollCallStartsAMuster : Obligations.RollCallStartsAMuster := by
  intro s tag free mode
  have call : exec (.rollCall tag) s = .next (chooseIfIdle (handleRollCall tag s)) :=
    exec_served (c := .rollCall tag) free rfl rfl (by simpa [admitted] using mode) rfl
  have waiting : s.link.completions.any isRollCallCompletion = true ↔ ∃ f ∈ s.link.completions, f.kind = 0xB0#8 := by
    simp [isRollCallCompletion]
  have formed (cars : s.cars ≠ []) : ¬(!formationExists s) = true := by simp [(formationExists_iff s).2 cars]
  refine ⟨fun none => ?_, fun cars busy => ?_, fun cars line completions => ?_⟩
  · have absent : (!formationExists s) = true := by simp [formationExists, none]
    rw [call, handleRollCall, if_pos absent]
    rfl
  · rw [call, handleRollCall, if_neg (formed cars), if_pos (busy.imp_right waiting.2)]
    rfl
  · have idle : ¬(s.line.state = .mustering ∨ s.link.completions.any isRollCallCompletion = true) :=
      not_or.2 ⟨line, fun h => by
        obtain ⟨f, hf, kind⟩ := waiting.1 h
        exact completions f hf kind⟩
    rw [call, handleRollCall, if_neg (formed cars), if_neg idle]
    refine ⟨fun moving => ?_, fun still => ?_⟩
    · rw [if_pos ((anyReturning_iff s).2 moving)]
      rfl
    · have none : ¬anyReturning s = true := fun h => by
        obtain ⟨c, hc, returning⟩ := (anyReturning_iff s).1 h
        exact still c hc returning
      rw [if_neg none, startMuster_eq]
      rfl

end Sys2Proof.Machine

namespace Sys2Proof.Machine

open Sys2Proof

/-! ## QueryCar (R133, R138, R191) -/

/-- A signed field of two bytes reads back as the value sent, held at the end of its range (R187). -/
theorem intAt_i16 (x : Int) (rest : List Byte) : intAt 2 0 (i16 x ++ rest) = clamp x (-32768) 32767 := by
  obtain ⟨low, high⟩ := clamp_mem (x := x) (lo := -32768) (hi := 32767) (by decide)
  simp only [intAt, i16, natAt_bytes2, BitVec.toNat_ofInt]
  omega

theorem natAt_behind_i16 (n k : Nat) (x : Int) (rest : List Byte) :
    natAt n (k + 2) (i16 x ++ rest) = natAt n k rest := by
  rw [Nat.add_comm]; exact natAt_skip n k (i16 x) rest

theorem intAt_behind_i16 (n k : Nat) (x : Int) (rest : List Byte) :
    intAt n (k + 2) (i16 x ++ rest) = intAt n k rest := by
  rw [Nat.add_comm]; exact intAt_skip n k (i16 x) rest

theorem natAt_behind_bytes4 (n k : Nat) (x : Word) (rest : List Byte) :
    natAt n (k + 4) (bytes4 x ++ rest) = natAt n k rest := by
  rw [Nat.add_comm]; exact natAt_skip n k (bytes4 x) rest

theorem intAt_behind_bytes4 (n k : Nat) (x : Word) (rest : List Byte) :
    intAt n (k + 4) (bytes4 x ++ rest) = intAt n k rest := by
  rw [Nat.add_comm]; exact intAt_skip n k (bytes4 x) rest

/-- The fields of a car's report, each read at its place behind the reply's header: the channel and the binding. -/
theorem carReport_channel (s : State) (k : Nat) (c : Channel) (r : PlanRecord) {body : List Byte}
    (h : body = header .ok .none 0 ++ carReport s k c r) :
    natAt 1 4 body = (chanStateCode c.state).toNat ∧ (natAt 1 5 body = 1 ↔ isBound s k = true) ∧
    natAt 1 6 body = (condCode c.cond).toNat ∧ natAt 1 7 body = (nodeFlagsByte c.flags).toNat ∧
    natAt 1 8 body = min c.trackCount 255 ∧ natAt 1 9 body = (faultSetByte c.faults).toNat ∧
    natAt 1 10 body = (faultCode c.firstFault).toNat ∧ (natAt 1 11 body = 1 ↔ c.unreported = true) ∧
    intAt 2 12 body = clamp c.theta (-32768) 32767 ∧ intAt 2 14 body = clamp c.step (-32768) 32767 ∧
    intAt 2 16 body = clamp c.sent (-32768) 32767 ∧ intAt 2 18 body = clamp (c.angle.getD 0) (-32768) 32767 ∧
    (natAt 1 20 body = 1 ↔ c.angle ≠ none) ∧ natAt 4 22 body = ((ownSerial s k).getD 0#32).toNat := by
  have count (n : Nat) : (u8 n).toNat = min n 255 := (u8_toNat_min n).trans (min_comm _ _)
  have serial : (((s.cars[k]?).bind Car.node).map CarNode.serial) = ownSerial s k := rfl
  subst h
  simp only [carReport, List.append_assoc, List.cons_append, List.nil_append]
  refine ⟨?_, ?_, ?_, ?_, ?_, ?_, ?_, ?_, ?_, ?_, ?_, ?_, ?_, ?_⟩ <;>
    simp only [natAt_header, natAt_cons, natAt_first, intAt_header, intAt_cons, natAt_behind_i16, intAt_behind_i16,
      intAt_i16, natAt_bytes4, yesNo_eq_one, count, serial, ne_eq, Option.isSome_iff_ne_none]

/-- The planner record in a car's report. -/
theorem carReport_record (s : State) (k : Nat) (c : Channel) (r : PlanRecord) {body : List Byte}
    (h : body = header .ok .none 0 ++ carReport s k c r) :
    intAt 2 26 body = clamp r.target (-32768) 32767 ∧ natAt 1 28 body = (sourceCode r.source).toNat ∧
    (natAt 1 29 body = 1 ↔ r.fallback = true) ∧ (natAt 1 30 body = 1 ↔ r.front ≠ none) ∧
    (natAt 1 31 body = 1 ↔ r.rear ≠ none) ∧ intAt 4 34 body = saturatePos (r.front.getD 0) ∧
    intAt 4 38 body = saturatePos (r.rear.getD 0) := by
  have last := intAt_i32 (r.rear.getD 0) []
  rw [List.append_nil] at last
  subst h
  simp only [carReport, reserved_two, List.append_assoc, List.cons_append, List.nil_append]
  refine ⟨?_, ?_, ?_, ?_, ?_, ?_, ?_⟩ <;>
    simp only [natAt_header, natAt_cons, natAt_first, intAt_header, intAt_cons, natAt_behind_i16, intAt_behind_i16,
      natAt_behind_bytes4, intAt_behind_bytes4, intAt_behind_i32, intAt_i16, intAt_i32, last, yesNo_eq_one, ne_eq,
      Option.isSome_iff_ne_none]

/-! ## ClearCarFault (R137) -/

section
variable {s : State} {car : Byte} {c : Channel} (inside : car.toNat < s.cars.length)
  (place : s.chans[car.toNat]? = some c)
include inside place

theorem handleQueryCar_report (tag : Byte) {r : PlanRecord} (record : s.plan.records[car.toNat]? = some r) :
    handleQueryCar tag car s =
      (s.setChans (s.chans.set car.toNat { c with flags := noNodeFlags })).respond
        (okFrame 0x28#8 tag (carReport s car.toNat c r)) := by
  simp only [handleQueryCar, Nat.not_le.2 inside, if_false, place, record]
  rfl

theorem handleClearCarFault_refused (tag : Byte) {d : Detail} (h : clearFaultRefusal s car.toNat c = some d) :
    handleClearCarFault tag car s = s.refuse 0x29#8 tag .refused d := by
  simp only [handleClearCarFault, Nat.not_le.2 inside, if_false, place, h]

theorem handleClearCarFault_cleared (tag : Byte) (h : clearFaultRefusal s car.toNat c = none) :
    handleClearCarFault tag car s =
      ((s.setChans (s.chans.set car.toNat c.cleared)).reevaluate).respond
        (okFrame 0x29#8 tag [faultSetByte c.faults, faultCode c.firstFault, 0, 0]) := by
  simp only [handleClearCarFault, Nat.not_le.2 inside, if_false, place, h]
  rfl

end

/-- Settles O37: a report read field by field, and the checks of ClearCarFault one by one. -/
theorem carsAreQueriedAndCleared : Obligations.CarsAreQueriedAndCleared := by
  intro s tag car free
  have query : exec (.queryCar tag car) s = .next (chooseIfIdle (handleQueryCar tag car s)) :=
    exec_served (c := .queryCar tag car) free rfl rfl rfl rfl
  have clear : exec (.clearCarFault tag car) s = .next (chooseIfIdle (handleClearCarFault tag car s)) :=
    exec_served (c := .clearCarFault tag car) free rfl rfl rfl rfl
  refine ⟨fun outside => ⟨?_, ?_⟩, fun c r inside place record => ?_, fun c inside place => ?_⟩
  · rw [query, handleQueryCar, if_pos outside]
    rfl
  · rw [clear, handleClearCarFault, if_pos outside]
    rfl
  · have body := okFrame_body 0x28#8 tag (carReport s car.toNat c r)
    obtain ⟨state, bound, cond, flags, count, faults, first, unreported, theta, step, sent, angle, reported, serial⟩ :=
      carReport_channel s _ c r body
    refine ⟨okFrame 0x28#8 tag (carReport s car.toNat c r), ?_, rfl, rfl, rfl, rfl, state, bound, cond, flags, count,
      faults, first, unreported, theta, step, sent, angle, reported, serial, carReport_record s _ c r body⟩
    rw [query, handleQueryCar_report inside place tag record]
    rfl
  · have refused {d : Detail} (h : clearFaultRefusal s car.toNat c = some d) :
        exec (.clearCarFault tag car) s = .next (chooseIfIdle (s.refuse 0x29#8 tag .refused d)) := by
      rw [clear, handleClearCarFault_refused inside place tag h]
    refine ⟨fun working => refused (d := .notFailed) (by simp [clearFaultRefusal, working]),
      fun failed line => refused (d := .line) (by simp [clearFaultRefusal, failed, line]), fun failed line =>
        ⟨fun unbound => refused (d := .unbound) (by simp [clearFaultRefusal, failed, line, unbound]),
          fun bound silent => refused (d := .noStatus) (by simp [clearFaultRefusal, failed, line, bound, silent]),
          fun bound fault => refused (d := .nodeFault) (by simp [clearFaultRefusal, failed, line, bound, fault]),
          fun bound fit => ?_⟩⟩
    have passed : clearFaultRefusal s car.toNat c = none := by
      rcases fit with cond | cond <;> simp [clearFaultRefusal, failed, line, bound, cond]
    rw [clear, handleClearCarFault_cleared inside place tag passed]
    rfl

end Sys2Proof.Machine

namespace Sys2Proof.Machine

open Sys2Proof

/-! ## The bodies of the notices (R136, R140, R167, R182, R191) -/

/-- The body of a notice: its event flags and its content (R182). -/
def noticeBody (s : State) (k : NoticeKind) : List Byte := bytes2 (s.link.notices.get k).flags ++ noticeContent s k

theorem natAt_behind_bytes2 (n k : Nat) (x : Half) (rest : List Byte) :
    natAt n (k + 2) (bytes2 x ++ rest) = natAt n k rest := by
  rw [Nat.add_comm]; exact natAt_skip n k (bytes2 x) rest

theorem intAt_behind_bytes2 (n k : Nat) (x : Half) (rest : List Byte) :
    intAt n (k + 2) (bytes2 x ++ rest) = intAt n k rest := by
  rw [Nat.add_comm]; exact intAt_skip n k (bytes2 x) rest

theorem noticeBody_mode (s : State) :
    (noticeBody s .mode).length = 6 ∧ natAt 1 2 (noticeBody s .mode) = (modeCode s.ctl.mode).toNat ∧
      (natAt 1 3 (noticeBody s .mode) = 1 ↔ s.ctl.inhibit = true) ∧
      (natAt 1 4 (noticeBody s .mode) = 1 ↔ s.ctl.latch = true) ∧
      natAt 1 5 (noticeBody s .mode) = (causeCode s.ctl.cause).toNat := by
  refine ⟨rfl, ?_, ?_, ?_, ?_⟩ <;>
    simp only [noticeBody, noticeContent, natAt_behind_bytes2, natAt_cons, natAt_first, yesNo_eq_one]

/-! ### CARS (R136) -/

/-- The values that a partial function gives over a list, place by place. -/
theorem map_some_filterMap {α β : Type} (g : α → Option β) (l : List α) :
    (l.filterMap g).map some = (l.filter (fun a => (g a).isSome)).map g := by
  induction l with
  | nil => rfl
  | cons a l ih => cases h : g a <;> simp [h, ih]

/-- The cars whose fault is unreported, by their indexes (R136). -/
def unreportedIndexes (s : State) : List Nat :=
  (List.range s.chans.length).filter (fun k => ((s.chans[k]?).map Channel.unreported).getD false)

theorem unreportedCars_places {s : State} (table : s.chans.length = s.cars.length) :
    (unreportedCars s).map some =
      (unreportedIndexes s).map (fun k => ((s.chans[k]?).filter Channel.unreported).map (fun c => (k, c))) := by
  rw [unreportedCars, map_some_filterMap, unreportedIndexes, carIndexes, table]
  congr 2
  funext k
  cases h : s.chans[k]? with
  | none => rfl
  | some c => cases u : c.unreported <;> simp [Option.filter, u]

theorem unreportedCars_length {s : State} (table : s.chans.length = s.cars.length) :
    (unreportedCars s).length = (unreportedIndexes s).length := by
  simpa using congrArg List.length (unreportedCars_places table)

theorem unreportedCars_place {s : State} (table : s.chans.length = s.cars.length) {i k : Nat} {c : Channel}
    (item : (unreportedIndexes s)[i]? = some k) (place : s.chans[k]? = some c) :
    (unreportedCars s)[i]? = some (k, c) := by
  have unreported : c.unreported = true := by
    simpa [place] using (List.mem_filter.1 (List.mem_of_getElem? item)).2
  have same := congrArg (·[i]?) (unreportedCars_places table)
  simpa [item, place, Option.filter, unreported] using same

theorem noticeBody_cars {s : State} (formation : s.cars.length ≤ 12) (table : s.chans.length = s.cars.length) :
    (noticeBody s .cars).length = 4 + 4 * (unreportedIndexes s).length ∧
    natAt 1 2 (noticeBody s .cars) = (unreportedIndexes s).length ∧
    ∀ i k c, (unreportedIndexes s)[i]? = some k → s.chans[k]? = some c →
      natAt 1 (4 + 4 * i) (noticeBody s .cars) = k ∧
      natAt 1 (5 + 4 * i) (noticeBody s .cars) = (chanStateCode c.state).toNat ∧
      natAt 1 (6 + 4 * i) (noticeBody s .cars) = (faultSetByte c.faults).toNat ∧
      natAt 1 (7 + 4 * i) (noticeBody s .cars) = (faultCode c.firstFault).toNat := by
  have length := unreportedCars_length table
  have most : (unreportedIndexes s).length ≤ 255 :=
    ((List.length_filter_le _ _).trans (List.length_range.le.trans (table.le.trans formation))).trans (by decide)
  have width : ((unreportedCars s).flatMap carEntry).length = 4 * (unreportedCars s).length := by
    rw [List.length_flatMap, show (fun e => (carEntry e).length) = fun _ => 4 from rfl, List.map_const',
      List.sum_replicate, smul_eq_mul, Nat.mul_comm]
  refine ⟨?_, ?_, fun i k c item place => ?_⟩
  · rw [noticeBody, noticeContent, List.length_append, List.length_append, width, length, ← Nat.add_assoc]
    rfl
  · simp only [noticeBody, noticeContent, List.cons_append, natAt_behind_bytes2, natAt_first, length,
      u8_toNat most]
  · obtain ⟨rest, entry⟩ := natAt_flatMap (f := carEntry) (w := 4) (fun _ => rfl) (unreportedCars_place table item place)
    have field (j n : Nat) (h : n = 4 + (4 * i + j)) :
        natAt 1 n (noticeBody s .cars) = natAt 1 j (carEntry (k, c) ++ rest) := by
      rw [← entry, h]
      exact natAt_skip 1 (4 * i + j) (bytes2 _ ++ [_, _]) _
    have index : k ≤ 255 := by
      have := (List.getElem?_eq_some_iff.1 place).1
      omega
    refine ⟨?_, ?_, ?_, ?_⟩
    · rw [field 0 _ (by omega)]
      exact (natAt_first _ _).trans (u8_toNat index)
    · exact (field 1 _ (by omega)).trans (natAt_byte 1 _)
    · exact (field 2 _ (by omega)).trans (natAt_byte 2 _)
    · exact (field 3 _ (by omega)).trans (natAt_byte 3 _)

/-! ### LINE (R167) -/

/-- The missing cars are the tilting ones whose node is not bound (R150, R167). -/
theorem missingCount_eq (s : State) :
    missingCount s = (List.range s.cars.length).countP (fun k => isTilting s k && !isBound s k) := by
  have parts := List.countP_eq_countP_filter_add (carIndexes s) (isTilting s) (isBound s)
  rw [List.countP_filter, List.countP_filter, ← tiltingCount_eq] at parts
  have bound := bound_add_missing s
  rw [boundCount] at bound
  simp only [carIndexes] at *
  omega

theorem noticeBody_line {s : State} (formation : s.cars.length ≤ 12) (law : LineLaw s) :
    (noticeBody s .line).length = 10 ∧ natAt 1 2 (noticeBody s .line) = (lineStateCode s.line.state).toNat ∧
      natAt 1 3 (noticeBody s .line) = (List.range s.cars.length).countP (fun k => isTilting s k && isBound s k) ∧
      natAt 1 4 (noticeBody s .line) = (List.range s.cars.length).countP (fun k => isTilting s k && !isBound s k) ∧
      natAt 1 5 (noticeBody s .line) = [13, 14, 15].countP (fun a => (s.line.foreign.get a).isSome) ∧
      natAt 1 6 (noticeBody s .line) = s.line.parked.length ∧ natAt 2 8 (noticeBody s .line) = s.line.echoTotal := by
  obtain ⟨-, total, parked, -⟩ := law
  have cars (p : Nat → Bool) : (List.range s.cars.length).countP p ≤ 255 :=
    List.countP_le_length.trans (List.length_range.le.trans (formation.trans (by decide)))
  have bound : boundCount s ≤ 255 := cars _
  have missing : missingCount s ≤ 255 := (missingCount_eq s).le.trans (cars _)
  have foreign : s.line.foreign.count ≤ 255 := List.countP_le_length.trans (by decide)
  have parked : s.line.parked.length ≤ 255 := parked.trans (by decide)
  have last := natAt_u16 total []
  rw [List.append_nil] at last
  rw [← missingCount_eq]
  refine ⟨rfl, ?_, ?_, ?_, ?_, ?_, ?_⟩ <;>
    simp only [noticeBody, noticeContent, List.cons_append, List.nil_append, natAt_behind_bytes2, natAt_cons,
      natAt_first, u8_toNat bound, u8_toNat missing, u8_toNat foreign, u8_toNat parked, last]
  · rfl
  · rfl

/-! ### POSITION, GEOMETRY and ALERTS -/

theorem noticeBody_position {s : State} (odometer : OdometerLaw s) (law : CaptureLaw s) :
    (noticeBody s .position).length = 14 + 8 * s.odo.captures.length ∧
      intAt 4 2 (noticeBody s .position) = s.odo.pos ∧ natAt 4 6 (noticeBody s .position) = s.odo.uCm ∧
      (natAt 1 10 (noticeBody s .position) = 1 ↔ s.odo.trust = true) ∧
      (natAt 1 11 (noticeBody s .position) = 1 ↔ s.odo.tachoA.failed = true) ∧
      (natAt 1 12 (noticeBody s .position) = 1 ↔ s.odo.tachoB.failed = true) ∧
      natAt 1 13 (noticeBody s .position) = s.odo.captures.length := by
  obtain ⟨low, high, -, -, ceiling, -⟩ := odometer
  have pos : saturatePos s.odo.pos = s.odo.pos := saturatePos_of_mem low high
  have u : s.odo.uCm ≤ 4294967295 := by
    simp only [Config.uCeiling] at ceiling
    rw [Odometer.uCm]; omega
  have count : s.odo.captures.length ≤ 255 := law.1.trans (by decide)
  have width : (s.odo.captures.flatMap captureBytes).length = 8 * s.odo.captures.length := by
    rw [List.length_flatMap, show (fun e => (captureBytes e).length) = fun _ => 8 from rfl, List.map_const',
      List.sum_replicate, smul_eq_mul, Nat.mul_comm]
  refine ⟨?_, ?_, ?_, ?_, ?_, ?_, ?_⟩
  · rw [noticeBody, noticeContent, List.length_append, List.length_append, width, ← Nat.add_assoc]
    rfl
  all_goals
    simp only [noticeBody, noticeContent, List.append_assoc, List.cons_append, natAt_behind_bytes2,
      intAt_behind_bytes2, natAt_behind_i32, natAt_behind_u32, natAt_cons, natAt_first, intAt_i32, natAt_u32 u,
      u8_toNat count, yesNo_eq_one, pos]

/-- The captures of the notice are those of QueryPosition, behind fewer bytes (R58, R191). -/
theorem noticeBody_captures {s : State} (law : CaptureLaw s) {i : Nat} {c : Capture}
    (item : s.odo.captures[i]? = some c) :
    natAt 2 (14 + 8 * i) (noticeBody s .position) = c.number ∧
      natAt 2 (16 + 8 * i) (noticeBody s .position) = min c.speed 65535 ∧
      intAt 4 (18 + 8 * i) (noticeBody s .position) = saturatePos c.position := by
  have number : c.number ≤ 65535 := (law.2.2.1 c (List.mem_of_getElem? item)).2
  obtain ⟨first, speed, position⟩ := capture_fields rfl item number
  have field (n j a b : Nat) (ha : a = 14 + (8 * i + j)) (hb : b = 40 + (8 * i + j)) :
      natAt n a (noticeBody s .position) =
        natAt n b (header .ok .none 0 ++ (positionBytes s ++ s.odo.captures.flatMap captureBytes)) := by
    have here := natAt_skip n (8 * i + j)
      (bytes2 (s.link.notices.get .position).flags ++ (i32 s.odo.pos ++ u32 s.odo.uCm ++
        [yesNo s.odo.trust, yesNo s.odo.tachoA.failed, yesNo s.odo.tachoB.failed, u8 s.odo.captures.length]))
      (s.odo.captures.flatMap captureBytes)
    have there := natAt_skip n (8 * i + j) (header .ok .none 0 ++ positionBytes s)
      (s.odo.captures.flatMap captureBytes)
    rw [List.append_assoc] at here there
    rw [ha, hb]
    exact here.trans there.symm
  exact ⟨(field 2 0 _ _ (by omega) (by omega)).trans first, (field 2 2 _ _ (by omega) (by omega)).trans speed,
    (intAt_congr (field 4 4 _ _ (by omega) (by omega))).trans position⟩

theorem noticeBody_geometry (s : State) :
    (noticeBody s .geometry).length = 14 ∧ (natAt 1 2 (noticeBody s .geometry) = 1 ↔ s.geo.committed ≠ []) ∧
      natAt 2 4 (noticeBody s .geometry) = 256 - s.geo.committed.length ∧
      intAt 4 6 (noticeBody s .geometry) =
        saturatePos ((s.geo.committed.getLast?.map (fun g => g.start + g.length)).getD 0) ∧
      intAt 4 10 (noticeBody s .geometry) =
        saturatePos ((s.geo.committed.getLast?.map (fun g => g.start + g.length - s.odo.pos)).getD 0) := by
  have some : s.geo.committedEnd.isSome = true ↔ s.geo.committed ≠ [] := by simp [GeoStore.committedEnd]
  have room : s.geo.freeCount ≤ 65535 := (Nat.sub_le _ _).trans (by decide)
  have ahead := intAt_i32 (lookAhead s) []
  rw [List.append_nil] at ahead
  rw [← lookAhead_eq]
  refine ⟨rfl, ?_, ?_, ?_, ?_⟩ <;>
    simp only [noticeBody, noticeContent, List.append_assoc, List.cons_append, List.nil_append, natAt_behind_bytes2,
      intAt_behind_bytes2, intAt_behind_u16, intAt_behind_i32, natAt_cons, intAt_cons, natAt_first, natAt_u16 room,
      intAt_i32, yesNo_eq_one, some, ahead]
  · rfl
  · rfl

theorem noticeBody_alerts {s : State} (law : LineLaw s) :
    (noticeBody s .alerts).length = 6 ∧ natAt 1 2 (noticeBody s .alerts) = s.line.alerts.length := by
  obtain ⟨-, -, -, alerts, -⟩ := law
  have few : s.line.alerts.length ≤ 255 := alerts.trans (by decide)
  refine ⟨rfl, ?_⟩
  simp only [noticeBody, noticeContent, List.cons_append, natAt_behind_bytes2, natAt_first, u8_toNat few]

/-! ### TELEMETRY (R140) -/

/-- The entries of a list, made by place and put together, are those of its places. -/
theorem mapIdx_flatten {α β : Type} (g : Nat → α → List β) (l : List α) :
    (l.mapIdx g).flatten = l.zipIdx.flatMap (fun x => g x.2 x.1) := by
  rw [List.mapIdx_eq_zipIdx_map, List.flatMap_def]

theorem noticeBody_telemetry {s : State} (formation : s.cars.length ≤ 12) (table : s.chans.length = s.cars.length) :
    (noticeBody s .telemetry).length = 4 + 10 * s.cars.length ∧
      natAt 1 2 (noticeBody s .telemetry) = s.cars.length := by
  have width : (s.chans.mapIdx (telemetryEntry s)).flatten.length = 10 * s.cars.length := by
    rw [mapIdx_flatten, List.length_flatMap, show (fun x : Channel × Nat => (telemetryEntry s x.2 x.1).length) =
      fun _ => 10 from rfl, List.map_const', List.sum_replicate, smul_eq_mul, List.length_zipIdx, table, Nat.mul_comm]
  have few : s.cars.length ≤ 255 := formation.trans (by decide)
  refine ⟨?_, ?_⟩
  · rw [noticeBody, noticeContent, List.length_append, List.length_append, width, ← Nat.add_assoc]
    rfl
  · simp only [noticeBody, noticeContent, List.cons_append, natAt_behind_bytes2, natAt_first, u8_toNat few]

theorem noticeBody_entry {s : State} {k : Nat} {c : Channel} {r : PlanRecord} (place : s.chans[k]? = some c)
    (record : s.plan.records[k]? = some r) :
    intAt 2 (4 + 10 * k) (noticeBody s .telemetry) = clamp c.theta (-32768) 32767 ∧
      intAt 2 (6 + 10 * k) (noticeBody s .telemetry) = clamp r.target (-32768) 32767 ∧
      intAt 2 (8 + 10 * k) (noticeBody s .telemetry) = clamp (c.angle.getD 0) (-32768) 32767 ∧
      natAt 1 (10 + 10 * k) (noticeBody s .telemetry) = (chanStateCode c.state).toNat ∧
      natAt 1 (11 + 10 * k) (noticeBody s .telemetry) = (sourceCode r.source).toNat ∧
      (natAt 1 (12 + 10 * k) (noticeBody s .telemetry) = 1 ↔ c.angle ≠ none) := by
  obtain ⟨rest, entry⟩ := natAt_flatMap (f := fun x : Channel × Nat => telemetryEntry s x.2 x.1) (w := 10)
    (fun _ => rfl) (show s.chans.zipIdx[k]? = some (c, k) by simp [place])
  have bytes : telemetryEntry s k c ++ rest = i16 c.theta ++ (i16 r.target ++ (i16 (c.angle.getD 0) ++
      (chanStateCode c.state :: sourceCode r.source :: yesNo c.angle.isSome :: 0#8 :: rest))) := by
    simp [telemetryEntry, record]
  have field (n j a : Nat) (h : a = 4 + (10 * k + j)) : natAt n a (noticeBody s .telemetry) =
      natAt n j (i16 c.theta ++ (i16 r.target ++ (i16 (c.angle.getD 0) ++
        (chanStateCode c.state :: sourceCode r.source :: yesNo c.angle.isSome :: 0#8 :: rest)))) := by
    rw [← bytes, ← entry, h, ← mapIdx_flatten]
    exact natAt_skip n (10 * k + j) (bytes2 _ ++ [_, _]) _
  refine ⟨?_, ?_, ?_, ?_, ?_, ?_⟩
  · rw [intAt_congr (field 2 0 _ (by omega)), intAt_i16]
  · rw [intAt_congr (field 2 2 _ (by omega)), intAt_behind_i16, intAt_i16]
  · rw [intAt_congr (field 2 4 _ (by omega)), intAt_behind_i16, intAt_behind_i16, intAt_i16]
  · rw [field 1 6 _ (by omega), natAt_behind_i16, natAt_behind_i16, natAt_behind_i16, natAt_first]
  · rw [field 1 7 _ (by omega), natAt_behind_i16, natAt_behind_i16, natAt_behind_i16, natAt_cons, natAt_first]
  · rw [field 1 8 _ (by omega), natAt_behind_i16, natAt_behind_i16, natAt_behind_i16, natAt_cons, natAt_cons,
      natAt_first, yesNo_eq_one, Option.isSome_iff_ne_none]

/-- Settles O60: the notices one by one. -/
theorem noticesCarryTheirState : Obligations.NoticesCarryTheirState := by
  intro s body bodies formation table odometer captures geometry line
  obtain rfl : body = noticeBody s := funext bodies
  have cars : s.cars.length ≤ 12 := formation.1
  have chans : s.chans.length = s.cars.length := table.1
  obtain ⟨length, pos, u, trust, failedA, failedB, count⟩ := noticeBody_position odometer captures
  obtain ⟨size, number⟩ := noticeBody_telemetry cars chans
  refine ⟨fun k => natAt_bytes2 _ _, noticeBody_mode s, ?_, noticeBody_line cars line,
    ⟨length, pos, u, trust, failedA, failedB, count, fun i c => noticeBody_captures captures⟩, noticeBody_geometry s,
    noticeBody_alerts line, size, number, fun k c r => noticeBody_entry⟩
  rintro listed rfl
  exact noticeBody_cars cars chans

end Sys2Proof.Machine

namespace Sys2Proof.Machine

open Sys2Proof

/-! ## What follows an exchange of the line cycle (R152, R154, R156) -/

section
variable {s : State}

theorem maintenanceSlot_empty (h : s.line.maint = []) : maintenanceSlot s = sendFrame .call s := by
  simp [maintenanceSlot, h, openWindow]

variable {e : Transfer} {rest : List Transfer} (h : s.line.maint = e :: rest)
include h

theorem maintenanceSlot_bound (bound : isBound s e.car = true) :
    maintenanceSlot s = sendFrame (.mreq (e.car + 1) e.write e.item e.value) s := by
  simp [maintenanceSlot, h, bound]

/-- The entry at the head is completed and removed. -/
theorem completeHead_cons (r : ResultCode) (value : Half) :
    completeHead r value s =
      { s with
        line := { s.line with maint := rest }
        link := { s.link with completions := s.link.completions ++ [transferFrame e r value] } } := by
  simp [completeHead, h, State.setLine]

theorem maintenanceSlot_unbound (unbound : isBound s e.car = false) :
    maintenanceSlot s = sendFrame .call (completeHead .carUnbound 0#16 s) := by
  simp [maintenanceSlot, h, unbound, openWindow]

end

/-- The maintenance slot touches the exchange, the maintenance queue and the completions, and nothing else. -/
theorem maintenanceSlot_frame (s : State) :
    maintenanceSlot s =
      { s with
        line := { s.line with exch := (maintenanceSlot s).line.exch, maint := (maintenanceSlot s).line.maint }
        link := { s.link with completions := (maintenanceSlot s).link.completions } } := by
  cases h : s.line.maint with
  | nil => rw [maintenanceSlot_empty h]; rfl
  | cons e rest =>
    cases bound : isBound s e.car with
    | true => rw [maintenanceSlot_bound h bound]; rfl
    | false => rw [maintenanceSlot_unbound h bound, completeHead_cons h]; rfl

theorem askAfter_some {s : State} {a b : Nat} (h : nextAsked s a = some b) : askAfter a s = sendFrame (.ask b) s := by
  simp [askAfter, h]

theorem askAfter_none {s : State} {a : Nat} (h : nextAsked s a = none) : askAfter a s = maintenanceSlot s := by
  simp [askAfter, h]

/-- So does what follows an exchange of the ASK phase. -/
theorem askAfter_frame (a : Nat) (s : State) :
    askAfter a s =
      { s with
        line := { s.line with exch := (askAfter a s).line.exch, maint := (askAfter a s).line.maint }
        link := { s.link with completions := (askAfter a s).link.completions } } := by
  cases h : nextAsked s a with
  | some b => rw [askAfter_some h]; rfl
  | none => rw [askAfter_none h]; exact maintenanceSlot_frame s

theorem askAfter_isBound (a : Nat) (s : State) : isBound (askAfter a s) = isBound s :=
  isBound_congr (by rw [askAfter_frame])

theorem askAfter_foreign (a : Nat) (s : State) : (askAfter a s).line.foreign = s.line.foreign := by
  rw [askAfter_frame]

/-- An address is held by its car's bound node or by its foreign entry (R3, R154). -/
theorem addressHeld_iff (s : State) (b : Nat) :
    addressHeld s b = true ↔
      (1 ≤ b ∧ b ≤ 12 ∧ isBound s (b - 1) = true) ∨ (13 ≤ b ∧ s.line.foreign.get b ≠ none) := by
  unfold addressHeld
  split
  · next car => exact ⟨fun h => .inl ⟨car.1, car.2, h⟩, fun h => h.elim (·.2.2) fun h => by omega⟩
  · next other =>
    rw [Option.isSome_iff_ne_none]
    refine ⟨fun h => .inr ⟨?_, h⟩, fun h => h.elim (fun h => absurd ⟨h.1, h.2.1⟩ other) (·.2)⟩
    obtain ⟨x, hx⟩ := Option.ne_none_iff_exists'.1 h
    exact (Foreign.address_of_get hx).1

theorem nextAsked_eq_some {s : State} {a b : Nat} (after : a < b) (inside : b ≤ 15) (held : addressHeld s b = true)
    (first : ∀ c, a < c → c < b → ¬addressHeld s c = true) : nextAsked s a = some b := by
  refine List.find?_range_eq_some.2 ⟨by simp [after, held], List.mem_range.2 (by omega), fun c hc => ?_⟩
  by_cases hac : a < c
  · simp [first c hac hc]
  · simp [hac]

theorem nextAsked_eq_none {s : State} {a : Nat} (unheld : ∀ b, a < b → b ≤ 15 → ¬addressHeld s b = true) :
    nextAsked s a = none := by
  refine List.find?_range_eq_none.2 fun b hb => ?_
  by_cases hab : a < b
  · simp [unheld b hab (by omega)]
  · simp [hab]

/-- What follows an exchange is what the word of the claims says, from a state whose maintenance queue and completions
are those before. -/
theorem askAfter_follows {s u : State} (a : Nat) (maint : u.line.maint = s.line.maint)
    (completions : u.link.completions = s.link.completions) : FollowsAsk s (askAfter a u) a := by
  intro held holds
  have same (b : Nat) : held b ↔ addressHeld u b = true := by
    rw [holds, askAfter_isBound, askAfter_foreign, addressHeld_iff]
  simp only [same, askAfter_isBound, ← maint, ← completions]
  refine ⟨fun b after inside here first => ?_, fun unheld => ⟨fun empty => ?_, fun e rest queue => ⟨?_, ?_⟩⟩⟩
  · rw [askAfter_some (nextAsked_eq_some after inside here first)]
    exact ⟨rfl, rfl, rfl⟩
  · rw [askAfter_none (nextAsked_eq_none unheld), maintenanceSlot_empty empty]
    exact ⟨rfl, empty, rfl⟩
  · intro bound
    rw [askAfter_none (nextAsked_eq_none unheld), maintenanceSlot_bound queue bound]
    exact ⟨rfl, rfl, rfl⟩
  · intro unbound
    rw [askAfter_none (nextAsked_eq_none unheld), maintenanceSlot_unbound queue unbound, completeHead_cons queue]
    exact ⟨rfl, rfl, rfl⟩

/-! ## The line cycle and the frames delivered (R139, R146, R152, R153) -/

/-- A frame sent whose echo matches is delivered, and the mismatch count is cleared (R146). -/
theorem echoMatched_sent {s : State} {f : LineFrame} (h : s.line.exch = .echo f) :
    echoMatched s = delivered f (s.setLine { s.line with echoCount := 0 }) := by
  simp [echoMatched, h]

theorem exec_frameEcho {s : State} (running : Running s) :
    exec (.frameEcho true) s = .next (chooseIfIdle (echoMatched s)) :=
  (exec_event (c := .frameEcho true) s rfl).trans (act_running _ running)

/-- An echo that matches and leaves the link alone. -/
theorem exec_frameEcho_quiet {s t : State} (running : Running s) (h : echoMatched s = t) (link : t.link = s.link) :
    exec (.frameEcho true) s = .next t := by
  subst h
  exact exec_quiet_event (c := .frameEcho true) running rfl link

/-- What SET carries for a car's address (R153). -/
theorem setPoints_place {s : State} {k : Nat} (h : k < 15) :
    (setPoints s)[k]? =
      some (if isBound s k && decide (k < 12) then (s.chans[k]?).map Channel.theta else none) := by
  simp [setPoints, h]

/-- Settles O51: the cycle's start, then each kind of frame delivered. -/
theorem cyclesBroadcastSetPointsAndFramesOpenTheirExchange :
    Obligations.CyclesBroadcastSetPointsAndFramesOpenTheirExchange := by
  intro s running
  have sent {f : LineFrame} {t : State} (h : s.line.exch = .echo f)
      (follows : delivered f (s.setLine { s.line with echoCount := 0 }) = t) (link : t.link = s.link) :
      exec (.frameEcho true) s = .next t :=
    exec_frameEcho_quiet running ((echoMatched_sent h).trans follows) link
  refine ⟨fun still => ?_, fun line quiet => ⟨setPoints s, ?_, by simp [setPoints], fun k c place inside => ?_,
    fun k inside out => ?_⟩, fun muster m hm => sent muster (by simp [delivered, openRound, hm, State.setLine]) rfl,
    fun claim => sent claim rfl rfl, fun a ask => sent ask rfl rfl, fun a w i v mreq => sent mreq rfl rfl,
    fun call => sent call rfl rfl, fun a ended => ?_, fun points set => ⟨_, exec_frameEcho running, ?_⟩,
    fun cut => exec_frameEcho_quiet running ?_ rfl⟩
  · have idle : startCycle s = s := if_neg fun h => still.elim (· h.1) (· h.2)
    rw [exec_quiet_event (c := .lineCycle) running rfl (by rw [idle]), idle]
  · have started : startCycle s = sendFrame (.set (setPoints s)) (takeSnapshot s) := if_pos ⟨line, quiet⟩
    rw [exec_quiet_event (c := .lineCycle) running rfl (by rw [started]; rfl), started]
    rfl
  · rw [setPoints_place (by omega), place]
    simp [inside]
  · rw [setPoints_place inside]
    rcases out with unbound | beyond
    · simp [unbound]
    · simp [Nat.not_lt.2 beyond]
  · rcases ended with leave | take
    · exact sent leave rfl rfl
    · exact exec_frameEcho_quiet running (by simp [echoMatched, take, endCycle, State.setLine]) rfl
  · rw [echoMatched_sent set]
    have frame := askAfter_frame 0 (s.setLine { s.line with echoCount := 0 })
    have follows : FollowsAsk s (askAfter 0 (s.setLine { s.line with echoCount := 0 })) 0 := askAfter_follows 0 rfl rfl
    rw [frame] at follows
    show (askAfter 0 _).line.echoCount = 0 ∧ _
    rw [delivered, frame]
    exact ⟨rfl, rfl, rfl, rfl, rfl, rfl, follows⟩
  · by_cases mustering : s.line.state = .mustering <;> simp [echoMatched, cut, resumeCut, mustering, State.setLine]

end Sys2Proof.Machine

namespace Sys2Proof.Machine

open Sys2Proof

/-! ## What the operations of the channels leave (R131, R132, R134, R135) -/

@[simp] theorem askAfter_chans (a : Nat) (s : State) : (askAfter a s).chans = s.chans := by rw [askAfter_frame]
@[simp] theorem askAfter_ctl (a : Nat) (s : State) : (askAfter a s).ctl = s.ctl := by rw [askAfter_frame]
@[simp] theorem askAfter_odo (a : Nat) (s : State) : (askAfter a s).odo = s.odo := by rw [askAfter_frame]
@[simp] theorem askAfter_geo (a : Nat) (s : State) : (askAfter a s).geo = s.geo := by rw [askAfter_frame]
@[simp] theorem askAfter_ring (a : Nat) (s : State) : (askAfter a s).ring = s.ring := by rw [askAfter_frame]
@[simp] theorem askAfter_plan (a : Nat) (s : State) : (askAfter a s).plan = s.plan := by rw [askAfter_frame]
@[simp] theorem askAfter_params (a : Nat) (s : State) : (askAfter a s).params = s.params := by rw [askAfter_frame]
@[simp] theorem askAfter_cars (a : Nat) (s : State) : (askAfter a s).cars = s.cars := by rw [askAfter_frame]
@[simp] theorem askAfter_nodes (a : Nat) (s : State) : (askAfter a s).line.nodes = s.line.nodes := by
  rw [askAfter_frame]
@[simp] theorem askAfter_notices (a : Nat) (s : State) : (askAfter a s).link.notices = s.link.notices := by
  rw [askAfter_frame]

theorem askAfter_centreConditions (a : Nat) (s : State) : centreConditions (askAfter a s) = centreConditions s := by
  refine centreConditions_view ?_
  simp only [State.centreView, askAfter_isBound, askAfter_chans, askAfter_cars, askAfter_params]
  rw [askAfter_frame]

/-- Between two states the channels, CENTRE_OK and the CARS notice alone change. -/
def OnlyChannels (s t : State) : Prop :=
  ∃ chans level notice,
    t = { s with
          chans := chans
          ctl := { s.ctl with centreOk := level }
          link := { s.link with notices := { s.link.notices with cars := notice } } }

namespace OnlyChannels

theorem refl {s : State} : OnlyChannels s s := ⟨_, _, _, rfl⟩

theorem trans {s t u : State} (h : OnlyChannels s t) (g : OnlyChannels t u) : OnlyChannels s u := by
  obtain ⟨_, _, _, rfl⟩ := h
  obtain ⟨chans, level, notice, rfl⟩ := g
  exact ⟨chans, level, notice, rfl⟩

theorem chans (s : State) (l : List Channel) : OnlyChannels s (s.setChans l) := ⟨l, _, _, rfl⟩

theorem reevaluate (s : State) : OnlyChannels s s.reevaluate := ⟨_, _, _, rfl⟩

theorem addFault (k : Nat) (kind : FaultKind) (s : State) : OnlyChannels s (addFault k kind s) :=
  ⟨_, _, _, addFault_frame k kind s⟩

theorem trackingTest (k : Nat) (s : State) : OnlyChannels s (trackingTest k s) := by
  unfold Machine.trackingTest
  split
  · exact refl
  · split
    · exact refl
    · split
      · dsimp only
        split
        · exact (chans s _).trans (addFault _ _ _)
        · exact chans s _
      · exact refl

theorem takeStat (k : Nat) (angle : Int) (cond : NodeCond) (flags : NodeFlags) (s : State) :
    OnlyChannels s (takeStat k angle cond flags s) := by
  have recorded := chans s (s.chans.modify k (fun c => c.record angle cond flags))
  unfold Machine.takeStat
  refine (recorded.trans ?_).trans (reevaluate _)
  split
  · exact addFault _ _ _
  · refine (trackingTest k _).trans ?_
    unfold notReadyTest
    split
    · exact chans _ _
    · exact refl

/-- What has changed, read in the state that holds it. -/
theorem eq {s t : State} (h : OnlyChannels s t) :
    t = { s with
          chans := t.chans
          ctl := { s.ctl with centreOk := t.ctl.centreOk }
          link := { s.link with notices := { s.link.notices with cars := t.link.notices.cars } } } := by
  obtain ⟨_, _, _, rfl⟩ := h
  rfl

end OnlyChannels

/-! ## A place of a list -/

theorem modify_place {α : Type} {l : List α} {k : Nat} {a : α} (h : l[k]? = some a) (f : α → α) :
    l.modify k f = l.set k (f a) := by
  rw [List.modify_eq_set_getElem?, h]
  rfl

theorem set_place {α : Type} {l : List α} {k : Nat} {a : α} (h : l[k]? = some a) : l.set k a = l := by
  obtain ⟨hk, rfl⟩ := List.getElem?_eq_some_iff.1 h
  exact List.set_getElem_self hk

/-- The channel of car k right after its record was written. -/
theorem setChans_place {s : State} {k : Nat} {c : Channel} (h : s.chans[k]? = some c) (d : Channel) :
    (s.setChans (s.chans.set k d)).chans[k]? = some d := by
  obtain ⟨hk, -⟩ := List.getElem?_eq_some_iff.1 h
  exact List.getElem?_set_self hk

/-! ## Faults added in the midst of an operation -/

/-- What a fault does is read off the other cars, the policy and the CARS notice before it, and off the channels and
the notice after it. -/
theorem AddsFault.congr {kind : FaultKind} {k : Nat} {c : Channel} {s s' t t' : State} (h : AddsFault kind k c s t)
    (others : ∀ j, j ≠ k → s.chans[j]? = s'.chans[j]?) (length : s.chans.length = s'.chans.length)
    (policy : s.params = s'.params) (notice : s.link.notices.cars = s'.link.notices.cars)
    (chans : t'.chans = t.chans) (raised : t'.link.notices.cars = t.link.notices.cars) :
    AddsFault kind k c s' t' := by
  obtain ⟨own, cars, size, rest⟩ := h
  rw [notice] at cars
  rw [policy] at rest
  refine ⟨?_, ?_, ?_, fun j b other place => ?_⟩
  · rwa [chans]
  · rwa [raised]
  · rw [chans, size, length]
  · rw [chans]
    exact rest j b other ((others j other).trans place)

/-- A fault added to car k, whose record was written just before. -/
theorem addFault_adds_set {kind : FaultKind} {k : Nat} {c d : Channel} {s u t : State} (place : s.chans[k]? = some c)
    (before : u = s.setChans (s.chans.set k d)) (chans : t.chans = (addFault k kind u).chans)
    (raised : t.link.notices.cars = (addFault k kind u).link.notices.cars) : AddsFault kind k d s t := by
  subst before
  refine (addFault_adds kind (setChans_place place d)).congr (fun j other => ?_) ?_ rfl rfl chans raised
  · exact List.getElem?_set_ne other.symm
  · exact List.length_set

/-- A car that fails loses its tracking-error count, so that it does not matter what was counted (R132, R134). -/
theorem AddsFault.uncounted {kind : FaultKind} {k n : Nat} {c : Channel} {s t : State} (failed : c.state ≠ .failed)
    (fitted : c.state ≠ .notFitted) (h : AddsFault kind k { c with trackCount := n } s t) : AddsFault kind k c s t := by
  obtain ⟨⟨d, place, gains⟩, cars, size, rest⟩ := h
  refine ⟨⟨d, place, fun no => absurd no fitted, fun _ _ => gains.2.1 fitted failed, fun no => absurd no failed,
    fun no => absurd no failed⟩, cars, size, rest⟩

/-- A car that has just failed is FAILED. -/
theorem AddsFault.failed {kind : FaultKind} {k : Nat} {c : Channel} {s t : State} (fitted : c.state ≠ .notFitted)
    (h : AddsFault kind k c s t) : ∃ d, t.chans[k]? = some d ∧ d.state = .failed := by
  obtain ⟨⟨d, place, -, fresh, gathers, known⟩, -⟩ := h
  refine ⟨d, place, ?_⟩
  by_cases failed : c.state = .failed
  · cases has : c.faults.has kind with
    | true => rw [known failed has]; exact failed
    | false => rw [gathers failed has]; exact failed
  · rw [fresh fitted failed]

/-! ## The tracking test (R132) -/

theorem isTracked_iff (c : Channel) :
    isTracked c = true ↔ c.state = .centred ∨ c.state = .following ∨ c.state = .returning := by
  simp [isTracked, or_assoc]

/-- The states whose tracking is not tested. -/
theorem isTracked_false (c : Channel) :
    isTracked c = false ↔ c.state = .notFitted ∨ c.state = .absent ∨ c.state = .failed := by
  cases h : c.state <;> simp [isTracked, h]

theorem nextTrackCount_within {p : Params} {c : Channel} {a : Int} (h : (a - c.sent).natAbs ≤ p.trackBand) :
    nextTrackCount p c a = 0 := if_neg (Nat.not_lt.2 h)

theorem nextTrackCount_beyond {p : Params} {c : Channel} {a : Int} (h : p.trackBand < (a - c.sent).natAbs) :
    nextTrackCount p c a = countUp c.trackCount 200 := if_pos h

section
variable {s : State} {k : Nat} {c : Channel} (place : s.chans[k]? = some c)
include place

theorem trackingTest_untested (h : isTracked c = false) : trackingTest k s = s := by
  cases angle : c.angle <;> simp [trackingTest, place, angle, h]

variable {a : Int} (angle : c.angle = some a) (tracked : isTracked c = true)
include angle tracked

theorem trackingTest_counts (h : nextTrackCount s.params c a < s.params.trackLimit) :
    trackingTest k s =
      s.setChans (s.chans.set k { c with trackCount := nextTrackCount s.params c a }) := by
  simp [trackingTest, place, angle, tracked, Nat.not_le.2 h]

theorem trackingTest_fails (h : s.params.trackLimit ≤ nextTrackCount s.params c a) :
    trackingTest k s =
      addFault k .tracking
        (s.setChans (s.chans.set k { c with trackCount := nextTrackCount s.params c a })) := by
  simp [trackingTest, place, angle, tracked, h]

end

/-! ## The four steps of a STAT (R131) -/

/-- A FOLLOWING car whose node is not ready returns; every other car stands (R131, step 4). -/
theorem notReadyTest_place {s : State} {k : Nat} {c : Channel} (place : s.chans[k]? = some c) (cond : NodeCond) :
    notReadyTest k cond s = s.setChans (s.chans.set k
      { c with state := if c.state = .following ∧ cond = .notReady then .returning else c.state }) := by
  by_cases waiting : cond = .notReady
  · have one : c.toReturning = { c with state := if c.state = .following then .returning else c.state } := by
      unfold Channel.toReturning
      split <;> rfl
    simp only [notReadyTest, waiting, if_true, and_true, modify_place place, one]
  · simp only [notReadyTest, waiting, if_false, and_false]
    rw [set_place place]
    rfl

theorem notReadyTest_still {s : State} {k : Nat} {c : Channel} (place : s.chans[k]? = some c)
    (still : c.state ≠ .following) (cond : NodeCond) : notReadyTest k cond s = s := by
  rw [notReadyTest_place place, if_neg fun h => still h.1, set_place place]
  rfl

section
variable {s : State} {k : Nat} {c r : Channel} {angle : Int} {cond : NodeCond} {flags : NodeFlags}
  (place : s.chans[k]? = some c) (record : r = c.record angle cond flags)
include place record

theorem takeStat_fault (fault : cond = .fault) :
    takeStat k angle cond flags s = (addFault k .nodeFault (s.setChans (s.chans.set k r))).reevaluate := by
  rw [takeStat, if_pos fault, modify_place place, ← record]

variable (sound : cond ≠ .fault)
include sound

theorem takeStat_sound :
    takeStat k angle cond flags s =
      (notReadyTest k cond (trackingTest k (s.setChans (s.chans.set k r)))).reevaluate := by
  rw [takeStat, if_neg sound, modify_place place, ← record]

/-- A car that is not tested only records (R131). -/
theorem takeStat_untested (h : c.state = .notFitted ∨ c.state = .absent ∨ c.state = .failed) :
    takeStat k angle cond flags s = (s.setChans (s.chans.set k r)).reevaluate := by
  have own : (s.setChans (s.chans.set k r)).chans[k]? = some r := setChans_place place r
  have state : r.state = c.state := by rw [record]; rfl
  rw [takeStat_sound place record sound, trackingTest_untested own ((isTracked_false r).2 (by rwa [state])),
    notReadyTest_still own (by rw [state]; rcases h with h | h | h <;> simp [h])]

variable (tested : c.state = .centred ∨ c.state = .following ∨ c.state = .returning)
include tested

/-- A car below the tracking limit counts, and returns where its node is not ready (R131, R132). -/
theorem takeStat_counts (h : nextTrackCount s.params c angle < s.params.trackLimit) :
    takeStat k angle cond flags s =
      (s.setChans (s.chans.set k
        { r with trackCount := nextTrackCount s.params c angle,
                 state := if c.state = .following ∧ cond = .notReady then .returning else c.state })).reevaluate := by
  subst record
  have own := setChans_place place (c.record angle cond flags)
  rw [takeStat_sound place rfl sound, trackingTest_counts own rfl ((isTracked_iff _).2 tested) h,
    notReadyTest_place (setChans_place own _)]
  simp only [State.setChans_chans, State.setChans_again, List.set_set]
  rfl

/-- A car at the tracking limit fails, whether its node is ready or not (R132). -/
theorem takeStat_fails (h : s.params.trackLimit ≤ nextTrackCount s.params c angle) :
    takeStat k angle cond flags s =
      (addFault k .tracking (s.setChans (s.chans.set k
        { r with trackCount := nextTrackCount s.params c angle }))).reevaluate := by
  subst record
  have own := setChans_place place (c.record angle cond flags)
  have fitted : c.state ≠ .notFitted := by rcases tested with h | h | h <;> simp [h]
  obtain ⟨d, failed, state⟩ := (addFault_adds .tracking
    (s := s.setChans (s.chans.set k
      { c.record angle cond flags with trackCount := nextTrackCount s.params c angle }))
    (setChans_place place _)).failed (by exact fitted)
  rw [takeStat_sound place rfl sound, trackingTest_fails own rfl ((isTracked_iff _).2 tested) h]
  simp only [State.setChans_chans, State.setChans_again, List.set_set]
  exact congrArg State.reevaluate (notReadyTest_still failed (by simp [state]) cond)

end

end Sys2Proof.Machine

namespace Sys2Proof.Machine

open Sys2Proof

/-! ## The sample of a STAT (R88, R89) -/

/-- The one sensing car of the formation. -/
theorem sensingCar_only {s : State} {k : Nat} {c : Car} (place : s.cars[k]? = some c) (sensing : c.sensing = true)
    (only : ∀ j d, s.cars[j]? = some d → d.sensing = true → j = k) : sensingCar s = some k := by
  obtain ⟨inside, rfl⟩ := List.getElem?_eq_some_iff.1 place
  exact List.findIdx?_eq_some_iff_getElem.2
    ⟨inside, sensing, fun j hj h => by
      have := only j _ (List.getElem?_eq_getElem (by omega)) h
      omega⟩

/-- A sample touches the history ring alone. -/
theorem takeSample_eq (accel : Option Int) (s : State) :
    takeSample accel s = s.setRing (takeSample accel s).ring := by
  unfold takeSample
  split
  · dsimp only
    split <;> rfl
  · rfl

/-- The history ring after a STAT of car k (R88). -/
def statRing (k : Nat) (accel : Option Int) (s : State) : List Sample :=
  if sensingCar s = some k then (takeSample accel s).ring else s.ring

theorem statRing_unsampled {k : Nat} {accel : Option Int} {s : State}
    (h : (∀ d, s.cars[k]? = some d → d.sensing = false) ∨ accel = none ∨ s.ctl.run = false) :
    statRing k accel s = s.ring := by
  unfold statRing
  split
  · next sensing =>
    obtain ⟨d, place, yes⟩ := sensingCar_some sensing
    rcases h with h | rfl | run
    · rw [h d place] at yes
      cases yes
    · rfl
    · unfold takeSample
      split
      · dsimp only
        rw [if_neg (by simp [run])]
      · rfl
  · rfl

theorem statRing_sampled {k : Nat} {s : State} {d : Car} {a : Int} (place : s.cars[k]? = some d)
    (sensing : d.sensing = true) (only : ∀ j b, s.cars[j]? = some b → b.sensing = true → j = k)
    (run : s.ctl.run = true) (inside : -2147483648 ≤ s.odo.pos - d.front) :
    statRing k (some a) s =
      insertSample { position := s.odo.pos - d.front, accel := clampAbs a Config.measuredLimit } s.ring := by
  have found := sensingCar_only place sensing only
  have front : sensingFront s = some d.front := by rw [sensingFront, found, Option.bind_some, place]; rfl
  rw [statRing, if_pos found]
  have inRange : Config.posMin ≤ s.odo.pos - d.front := inside
  simp only [takeSample, front, run, true_and]
  rw [if_pos inRange]
  rfl

/-! ## A good STAT (R131, R154) -/

/-- The miss count of car k is cleared (R154). -/
def missCleared (k : Nat) (s : State) : State :=
  s.setLine { s.line with nodes := s.line.nodes.modify k (fun n => { n with miss := 0 }) }

/-- What a good STAT does to its car, before the sample. -/
def statTaken (k : Nat) (angle : Int) (cond : NodeCond) (flags : NodeFlags) (s : State) : State :=
  takeStat k (clampAbs angle Config.angleLimit) cond flags (missCleared k s)

/-- A STAT of a node that is bound to no car is discarded (R88, R141). -/
theorem goodStat_unheard {k : Nat} {s : State} (h : 12 ≤ k ∨ isBound s k = false) (angle : Int) (cond : NodeCond)
    (flags : NodeFlags) (accel : Option Int) : goodStat (k + 1) angle cond flags accel s = s := by
  refine if_neg fun ⟨inside, bound⟩ => ?_
  rcases h with out | unbound
  · omega
  · rw [Nat.add_sub_cancel] at bound
    rw [unbound] at bound
    cases bound

theorem goodStat_heard {k : Nat} {s : State} (inside : k < 12) (bound : isBound s k = true) (angle : Int)
    (cond : NodeCond) (flags : NodeFlags) (accel : Option Int) :
    goodStat (k + 1) angle cond flags accel s =
      (statTaken k angle cond flags s).setRing (statRing k accel (statTaken k angle cond flags s)) := by
  rw [goodStat, if_pos ⟨by omega, by rwa [Nat.add_sub_cancel]⟩]
  show (if sensingCar (statTaken k angle cond flags s) = some k then
    takeSample accel (statTaken k angle cond flags s) else statTaken k angle cond flags s) = _
  unfold statRing
  split
  · exact takeSample_eq _ _
  · rfl

/-- A STAT at the address asked is good, and the next address is asked (R154). -/
theorem exec_stat {s : State} {a : Nat} (running : Running s) (asked : s.line.exch = .stat a) (angle : Int)
    (cond : NodeCond) (flags : NodeFlags) (accel : Option Int) :
    exec (.stat a angle cond flags accel) s =
      .next (chooseIfIdle (askAfter a (goodStat a angle cond flags accel s))) := by
  rw [exec_event (c := .stat a angle cond flags accel) s rfl, act_running _ running, hearStat, if_pos asked]

/-- A STAT re-evaluates CENTRE_OK (R33, R131). -/
theorem statTaken_ctl (k : Nat) (angle : Int) (cond : NodeCond) (flags : NodeFlags) (s : State) :
    (statTaken k angle cond flags s).ctl =
      { s.ctl with centreOk := centreConditions (statTaken k angle cond flags s) } := by
  have frame := congrArg State.ctl (OnlyChannels.takeStat k (clampAbs angle Config.angleLimit) cond flags
    (missCleared k s)).eq
  have level : (statTaken k angle cond flags s).ctl.centreOk = centreConditions (statTaken k angle cond flags s) :=
    (centreConditions_reevaluate _).symm
  rw [← level]
  exact frame

/-- What a STAT does to the train, by the condition and the state of its car: the channels and the notices of the state
that it leaves, read from the state before the miss count was cleared (R131, R132, R134, R135). -/
theorem statTaken_channels {s t : State} {k : Nat} {c r : Channel} {angle : Int} {cond : NodeCond} {flags : NodeFlags}
    (place : s.chans[k]? = some c) (record : r = c.record (clampAbs angle Config.angleLimit) cond flags)
    (chans : t.chans = (statTaken k angle cond flags s).chans)
    (notices : t.link.notices = (statTaken k angle cond flags s).link.notices) :
    (cond = .fault → AddsFault .nodeFault k r s t) ∧
    (cond ≠ .fault → c.state = .notFitted ∨ c.state = .absent ∨ c.state = .failed →
      t.chans = s.chans.set k r ∧ t.link.notices = s.link.notices) ∧
    (cond ≠ .fault → c.state = .centred ∨ c.state = .following ∨ c.state = .returning →
      (nextTrackCount s.params c (clampAbs angle Config.angleLimit) < s.params.trackLimit →
        t.link.notices = s.link.notices ∧ t.chans = s.chans.set k
          { r with trackCount := nextTrackCount s.params c (clampAbs angle Config.angleLimit),
                   state := if c.state = .following ∧ cond = .notReady then .returning else c.state }) ∧
      (s.params.trackLimit ≤ nextTrackCount s.params c (clampAbs angle Config.angleLimit) →
        AddsFault .tracking k r s t)) := by
  have there : (missCleared k s).chans[k]? = some c := place
  have cars := congrArg Notices.cars notices
  unfold statTaken at chans notices cars
  refine ⟨fun fault => ?_, fun sound still => ?_, fun sound tested => ⟨fun below => ?_, fun limit => ?_⟩⟩
  · rw [takeStat_fault there record fault] at chans cars
    exact (addFault_adds_set there rfl chans cars).congr (fun _ _ => rfl) rfl rfl rfl rfl rfl
  · rw [takeStat_untested there record sound still] at chans notices
    exact ⟨chans, notices⟩
  · rw [takeStat_counts there record sound tested below] at chans notices
    exact ⟨notices, chans⟩
  · have fitted : r.state ≠ .notFitted := by rw [record]; rcases tested with h | h | h <;> simp [Channel.record, h]
    have working : r.state ≠ .failed := by rw [record]; rcases tested with h | h | h <;> simp [Channel.record, h]
    rw [takeStat_fails there record sound tested limit] at chans cars
    exact ((addFault_adds_set there rfl chans cars).congr (fun _ _ => rfl) rfl rfl rfl rfl rfl).uncounted working
      fitted

/-- Settles O53: the STAT that is heard, block by block, and the one that is not. -/
theorem goodStatsActOnTheirCar : Obligations.GoodStatsActOnTheirCar := by
  intro s k angle cond flags acc c n running asked
  have heard := exec_stat running asked angle cond flags acc
  refine ⟨fun unheard => ⟨_, heard, ?_⟩, fun inside bound place entry => ⟨_, heard, ?_⟩⟩
  · rw [goodStat_unheard unheard]
    simp only [askAfter_nodes, askAfter_chans, askAfter_ring, askAfter_odo, askAfter_ctl, askAfter_notices, true_and]
    exact askAfter_follows _ rfl rfl
  · rw [goodStat_heard inside bound]
    have frame := (OnlyChannels.takeStat k (clampAbs angle Config.angleLimit) cond flags (missCleared k s)).eq
    have ctl := statTaken_ctl k angle cond flags s
    have channels {t : State} {r : Channel} := statTaken_channels (t := t) (r := r) (angle := angle) (cond := cond)
      (flags := flags) place
    change statTaken k angle cond flags s = _ at frame
    generalize hv : statTaken k angle cond flags s = v at frame ctl channels ⊢
    have line : v.line = (missCleared k s).line := by rw [frame]
    have odo : v.odo = s.odo := by rw [frame]; rfl
    have geo : v.geo = s.geo := by rw [frame]; rfl
    have plan : v.plan = s.plan := by rw [frame]; rfl
    have params : v.params = s.params := by rw [frame]; rfl
    have cars : v.cars = s.cars := by rw [frame]; rfl
    have ring : v.ring = s.ring := by rw [frame]; rfl
    have completions : v.link.completions = s.link.completions := by rw [frame]; rfl
    have run : v.ctl.run = s.ctl.run := by rw [ctl]
    have nodes : v.line.nodes = s.line.nodes.set k { n with miss := 0 } := by rw [line]; exact modify_place entry _
    have level : centreConditions (askAfter (k + 1) (v.setRing (statRing k acc v))) = centreConditions v :=
      (askAfter_centreConditions _ _).trans (centreConditions_congr v _ rfl rfl rfl rfl)
    refine ⟨(askAfter_nodes _ _).trans nodes, (askAfter_odo _ _).trans odo, (askAfter_geo _ _).trans geo,
      (askAfter_plan _ _).trans plan, (askAfter_params _ _).trans params, (askAfter_cars _ _).trans cars, ?_, ?_,
      fun unsampled => ?_, fun d a item sensing only given moving position => ⟨_, rfl, ?_⟩, fun r record => ?_⟩
    · rw [level, ← ctl]
      exact askAfter_ctl _ _
    · exact askAfter_follows _ (by rw [State.setRing_line, line]; rfl) completions
    · rw [askAfter_ring, State.setRing_ring, ← ring]
      exact statRing_unsampled (by rwa [cars, run])
    · rw [askAfter_ring, State.setRing_ring, given,
        statRing_sampled (d := d) (by rwa [cars]) sensing (by rwa [cars]) (by rwa [run]) (by rwa [odo]), odo, ring]
      rfl
    · obtain ⟨fault, still, tested⟩ := channels (t := askAfter (k + 1) (v.setRing (statRing k acc v))) record
        (askAfter_chans _ _) (askAfter_notices _ _)
      refine ⟨fault, still, fun sound fit => ?_⟩
      obtain ⟨below, limit⟩ := tested sound fit
      refine ⟨fun within positive => ?_, fun beyond count => ?_, fun beyond count => ?_⟩
      · rw [nextTrackCount_within (a := clampAbs angle Config.angleLimit) within] at below
        exact below positive
      · rw [nextTrackCount_beyond (a := clampAbs angle Config.angleLimit) beyond] at below
        exact below count
      · rw [nextTrackCount_beyond (a := clampAbs angle Config.angleLimit) beyond] at limit
        exact limit count

end Sys2Proof.Machine

namespace Sys2Proof.Machine

open Sys2Proof

/-! ## The tracking test as a command (R132) -/

/-- A car that a fault makes FAILED has CENTRE_OK re-evaluated (R33, R134). -/
theorem addFault_evaluated {s : State} {k : Nat} {c : Channel} (kind : FaultKind) (place : s.chans[k]? = some c)
    (failed : c.state ≠ .failed) (fitted : c.state ≠ .notFitted) :
    (addFault k kind s).ctl.centreOk = centreConditions (addFault k kind s) := by
  rcases addFault_cases k kind s with ⟨still, -⟩ | ⟨d, there, state, -⟩ | ⟨d, -, -, -, e⟩
  · rcases still c place with h | h
    · exact absurd h fitted
    · exact absurd h.1 failed
  · obtain rfl : c = d := Option.some.inj (place.symm.trans there)
    exact absurd state failed
  · rw [e]
    exact (centreConditions_reevaluate _).symm

section
variable {s : State} (running : Running s) {k : Nat}
include running

/-- A tracking test that fails no car. -/
theorem exec_tracking_still {t : State} (h : testTracking k s = t) (link : t.link = s.link) :
    exec (.tracking k) s = .next t := by
  subst h
  exact exec_quiet_event (c := .tracking k) running rfl link

variable {c : Channel} (bound : isBound s k = true) (place : s.chans[k]? = some c) {a : Int}
  (angle : c.angle = some a) (tracked : c.state = .centred ∨ c.state = .following ∨ c.state = .returning)
include bound place angle tracked

theorem exec_tracking_counts (h : nextTrackCount s.params c a < s.params.trackLimit) :
    exec (.tracking k) s =
      .next { s with chans := s.chans.set k { c with trackCount := nextTrackCount s.params c a } } :=
  exec_tracking_still running
    ((if_pos bound).trans (trackingTest_counts place angle ((isTracked_iff c).2 tracked) h)) rfl

theorem exec_tracking_fails (h : s.params.trackLimit ≤ nextTrackCount s.params c a) :
    ∃ t, exec (.tracking k) s = .next (chooseIfIdle t) ∧ AddsFault .tracking k c s t ∧
      t = { s with
            chans := t.chans
            ctl := { s.ctl with centreOk := centreConditions t }
            link := { s.link with notices := { s.link.notices with cars := t.link.notices.cars } } } := by
  have failed : c.state ≠ .failed := by rcases tracked with h | h | h <;> simp [h]
  have fitted : c.state ≠ .notFitted := by rcases tracked with h | h | h <;> simp [h]
  have fails : testTracking k s = addFault k .tracking _ :=
    (if_pos bound).trans (trackingTest_fails place angle ((isTracked_iff c).2 tracked) h)
  refine ⟨_, (exec_event (c := .tracking k) s rfl).trans (act_running _ running), ?_, ?_⟩
  · rw [fails]
    exact (addFault_adds_set place rfl rfl rfl).uncounted failed fitted
  · have level : (testTracking k s).ctl.centreOk = centreConditions (testTracking k s) := by
      rw [fails]
      exact addFault_evaluated _ (setChans_place place _) failed fitted
    have only : OnlyChannels s (testTracking k s) := by
      rw [testTracking, if_pos bound]
      exact .trackingTest k s
    rw [← level]
    exact only.eq

end

/-! ## Misses and losses (R154, R155) -/

/-- A lost node touches the binding table, the channels, CENTRE_OK and the CARS notice. -/
theorem loseNode_frame (k : Nat) (s : State) :
    loseNode k s =
      { s with
        line := { s.line with nodes := s.line.nodes.set k { serial := none, miss := 0 } }
        chans := (loseNode k s).chans
        ctl := { s.ctl with centreOk := (loseNode k s).ctl.centreOk }
        link := { s.link with notices := { s.link.notices with cars := (loseNode k s).link.notices.cars } } } :=
  addFault_frame k .nodeLost (unbind k s)

/-- A binding that ends leaves the channels and the notices to the fault that ends it (R155, R160). -/
theorem unbind_addsFault {s t : State} {k : Nat} {c : Channel} {kind : FaultKind} (place : s.chans[k]? = some c)
    (chans : t.chans = (addFault k kind (unbind k s)).chans)
    (notice : t.link.notices.cars = (addFault k kind (unbind k s)).link.notices.cars) : AddsFault kind k c s t :=
  (addFault_adds kind (s := unbind k s) place).congr (fun _ _ => rfl) rfl rfl rfl chans notice

section
variable {s : State} {k : Nat}

/-- A node that is bound to no car misses nothing. -/
theorem missAt_unheard (h : 12 ≤ k ∨ isBound s k = false) : missAt (k + 1) s = s := by
  refine if_neg fun ⟨inside, bound⟩ => ?_
  rcases h with out | unbound
  · omega
  · rw [Nat.add_sub_cancel, unbound] at bound
    cases bound

variable {n : NodeLink} (inside : k < 12) (bound : isBound s k = true) (entry : s.line.nodes[k]? = some n)
include inside bound entry

theorem missAt_counts (h : n.miss < 2) :
    missAt (k + 1) s = s.setLine { s.line with nodes := s.line.nodes.set k { n with miss := n.miss + 1 } } := by
  have car : k + 1 ≤ 12 := by omega
  simp [missAt, car, bound, entry, Nat.not_le.2 h]

theorem missAt_loses (h : n.miss = 2) : missAt (k + 1) s = loseNode k s := by
  have car : k + 1 ≤ 12 := by omega
  simp [missAt, car, bound, entry, h]

end

section
variable {s : State}

theorem exec_replySilence (running : Running s) : exec .replySilence s = .next (chooseIfIdle (noReply s)) :=
  (exec_event (c := .replySilence) s rfl).trans (act_running _ running)

theorem noReply_stat {a : Nat} (h : s.line.exch = .stat a) : noReply s = askAfter a (missAt a s) := by
  simp [noReply, h]

/-- A bad reply acts as silence does (R145). -/
theorem exec_badReply {c : Instr} {f : State → State} (running : Running s) (event : eventOf c = some f)
    (h : f s = noReply s) : exec c s = exec .replySilence s := by
  rw [exec_event s event, act_running f running, h, exec_replySilence running]

theorem hearStat_bad {b : Nat} (h : s.line.exch ≠ .stat b) (angle : Int) (cond : NodeCond) (flags : NodeFlags)
    (acc : Option Int) : hearStat b angle cond flags acc s = noReply s := if_neg h

theorem hearMrsp_bad {b : Nat} (h : s.line.exch ≠ .mrsp ∨ awaitedTransfer s ≠ some b) (ok : Bool) (v : Half) :
    hearMrsp b ok v s = noReply s := if_neg fun good => h.elim (· good.1) (· good.2)

theorem hearAlrt_bad {b : Nat} (h : s.line.exch ≠ .alrt b) (kind : AlertKind) (detail : Half) :
    hearAlrt b kind detail s = noReply s := if_neg h

/-- A car whose node is lost: at the third silence, or by the event itself (R155). -/
theorem lose_follows {k : Nat} {d : Channel} (place : s.chans[k]? = some d) {t : State}
    (h : t = if s.line.exch = .stat (k + 1) then askAfter (k + 1) (loseNode k s) else loseNode k s) :
    t.line.nodes = s.line.nodes.set k { serial := none, miss := 0 } ∧
    AddsFault .nodeLost k d s t ∧ t.odo = s.odo ∧ t.line.foreign = s.line.foreign ∧
    (s.line.exch = .stat (k + 1) → FollowsAsk s t (k + 1)) ∧
    (s.line.exch ≠ .stat (k + 1) → t.line.exch = s.line.exch ∧ t.line.maint = s.line.maint ∧
      t.link.completions = s.link.completions) := by
  have frame := loseNode_frame k s
  have line : (loseNode k s).line = { s.line with nodes := s.line.nodes.set k { serial := none, miss := 0 } } := by
    rw [frame]
  have odo : (loseNode k s).odo = s.odo := by rw [frame]
  have completions : (loseNode k s).link.completions = s.link.completions := by rw [frame]
  by_cases asked : s.line.exch = .stat (k + 1)
  · rw [if_pos asked] at h
    subst h
    refine ⟨by rw [askAfter_nodes, line], unbind_addsFault place (askAfter_chans _ _) ?_, ?_, ?_,
      fun _ => askAfter_follows _ (by rw [line]) completions, fun other => absurd asked other⟩
    · rw [askAfter_notices]; rfl
    · rw [askAfter_odo, odo]
    · rw [askAfter_foreign, line]
  · rw [if_neg asked] at h
    subst h
    exact ⟨by rw [line], unbind_addsFault place rfl rfl, odo, by rw [line], fun here => absurd here asked,
      fun _ => ⟨by rw [line], by rw [line], completions⟩⟩

end

/-- Settles O54: the tracking test, the misses, the losses, the bad replies and the transfers. -/
theorem missesLoseNodesAndTransfersComplete : Obligations.MissesLoseNodesAndTransfersComplete := by
  intro s running
  have silence := exec_replySilence running
  refine ⟨fun k c a bound place angle tracked => ⟨fun within positive => ?_, fun beyond below => ?_,
    fun beyond limit => ?_⟩, fun k untested => ?_, fun k unbound => ?_, fun k asked unheard => ⟨_, silence, ?_⟩,
    fun k n inside asked bound entry few => ⟨_, silence, ?_⟩, fun k n c d entry bound place lost => ?_,
    fun a b angle cond flags acc ok v kind detail asked => ⟨fun other => ?_, ?_, ?_⟩,
    fun e rest b angle cond flags acc ok v kind detail awaited queue => ⟨?_, fun other => ?_, ?_⟩,
    fun e rest awaited queue => ⟨?_, fun ok value => ?_⟩⟩
  · have count := nextTrackCount_within (c := c) within
    rw [exec_tracking_counts running bound place angle tracked (by rwa [count]), count]
  · have count := nextTrackCount_beyond (c := c) beyond
    rw [exec_tracking_counts running bound place angle tracked (by rwa [count]), count]
  · exact exec_tracking_fails running bound place angle tracked (by rwa [nextTrackCount_beyond beyond])
  · refine exec_tracking_still running ?_ rfl
    unfold testTracking
    split
    · next bound =>
      rcases untested with unbound | ⟨c, place, state⟩
      · rw [unbound] at bound
        cases bound
      · exact trackingTest_untested place ((isTracked_false c).2 state)
    · rfl
  · have idle : hearNodeLost k s = s := by simp [hearNodeLost, unbound]
    rw [exec_quiet_event (c := .nodeLost k) running rfl (by rw [idle]), idle]
  · rw [noReply_stat asked, missAt_unheard unheard]
    simp only [askAfter_nodes, askAfter_chans, askAfter_ctl, askAfter_odo, askAfter_notices, true_and]
    exact askAfter_follows _ rfl rfl
  · rw [noReply_stat asked, missAt_counts inside bound entry few]
    simp only [askAfter_nodes, askAfter_chans, askAfter_ctl, askAfter_odo, askAfter_notices]
    exact ⟨rfl, rfl, rfl, rfl, rfl, askAfter_follows _ rfl rfl⟩
  · rcases lost with ⟨rfl, inside, asked, third⟩ | rfl
    · refine ⟨_, silence, lose_follows place ?_⟩
      rw [noReply_stat asked, missAt_loses inside bound entry third, if_pos asked]
    · refine ⟨_, (exec_event (c := .nodeLost k) s rfl).trans (act_running _ running), lose_follows place ?_⟩
      exact if_pos bound
  · exact exec_badReply running rfl (hearStat_bad (by rw [asked]; simpa using other.symm) _ _ _ _)
  · exact exec_badReply running rfl (hearMrsp_bad (.inl (by simp [asked])) _ _)
  · exact exec_badReply running rfl (hearAlrt_bad (by simp [asked]) _ _)
  · exact exec_badReply running rfl (hearStat_bad (by simp [awaited]) _ _ _ _)
  · exact exec_badReply running rfl
      (hearMrsp_bad (.inr (by simpa [awaitedTransfer, queue] using other.symm)) _ _)
  · exact exec_badReply running rfl (hearAlrt_bad (by simp [awaited]) _ _)
  · have unanswered : noReply s = openWindow (completeHead .noAnswer 0#16 s) := by simp [noReply, awaited]
    rw [silence, unanswered, completeHead_cons queue]
    rfl
  · have answered : hearMrsp (e.car + 1) ok value s =
        openWindow (completeHead (if ok then .done else .nodeRefused) value s) :=
      if_pos ⟨awaited, by simp [awaitedTransfer, queue]⟩
    rw [exec_event (c := .mrsp (e.car + 1) ok value) s rfl, act_running _ running, answered, completeHead_cons queue]
    cases ok <;> rfl

end Sys2Proof.Machine

namespace Sys2Proof.Machine

open Sys2Proof

/-! ## The CALL window (R157, R160, R161) -/

/-- A foreign-node table is known by what its addresses hold. -/
theorem Foreign.ext_get {f g : Foreign} (h : ∀ a, f.get a = g.get a) : f = g := by
  obtain ⟨a13, a14, a15⟩ := f
  obtain ⟨b13, b14, b15⟩ := g
  obtain rfl : a13 = b13 := h 13
  obtain rfl : a14 = b14 := h 14
  obtain rfl : a15 = b15 := h 15
  rfl

section
variable {s : State}

theorem answerJoin_car {x : Serial} {k : Nat} (h : carOfSerial s x = some k) (unbound : isBound s k = false) :
    answerJoin x s = sendFrame (.name x (k + 1)) s := by
  simp [answerJoin, h, unbound]

/-- A join of a bound car ends the old binding (R160). -/
theorem answerJoin_restart {x : Serial} {k : Nat} (h : carOfSerial s x = some k) (bound : isBound s k = true) :
    answerJoin x s = sendFrame (.name x (k + 1)) (addFault k .nodeRestart (unbind k s)) := by
  simp [answerJoin, h, bound]

section
variable {x : Serial} {f : Foreign} (h : carOfSerial s x = none) (table : f = s.line.foreign.drop x)
include h table

theorem answerJoin_foreign {a : Nat} (free : f.highestFree = some a) :
    answerJoin x s = sendFrame (.name x a) (s.setLine { s.line with foreign := f }) := by
  subst table
  simp [answerJoin, h, free]

theorem answerJoin_parked (full : f.highestFree = none) :
    answerJoin x s = sendFrame (.park x) (s.setLine { s.line with foreign := f }) := by
  subst table
  simp [answerJoin, h, full]

end

section
variable (running : Running s) (window : s.line.exch = .window)
include running window

/-- The winning key of an open window is read. -/
theorem exec_contentionKey (key : WindowKey) :
    exec (.contentionKey key) s = .next (chooseIfIdle (readKey key s)) := by
  rw [exec_event (c := .contentionKey key) s rfl, act_running _ running, hearKey, if_pos window]

theorem exec_contentionKey_quiet {key : WindowKey} {t : State} (h : readKey key s = t) (link : t.link = s.link) :
    exec (.contentionKey key) s = .next t := by
  subst h
  have read : hearKey key s = readKey key s := if_pos window
  rw [exec_quiet_event (c := .contentionKey key) running rfl (by rwa [read]), read]

end

/-! ## The alert and its TAKE (R158, R159) -/

/-- A good ALRT. -/
theorem exec_alrt {a : Nat} {kind : AlertKind} {detail : Half} {t : State} (running : Running s)
    (awaited : s.line.exch = .alrt a) (h : answerAlert a kind detail s = t) (link : t.link = s.link) :
    exec (.alrt a kind detail) s = .next t := by
  subst h
  have good : hearAlrt a kind detail s = answerAlert a kind detail s := if_pos awaited
  rw [exec_quiet_event (c := .alrt a kind detail) running rfl (by rwa [good]), good]

/-- Silence and every bad reply end the cycle where an ALRT is awaited (R145, R158). -/
theorem exec_unanswered {a : Nat} {c : Instr} {f : State → State} (running : Running s)
    (awaited : s.line.exch = .alrt a) (event : eventOf c = some f) (h : f s = noReply s) :
    exec c s = .next (endCycle s) := by
  have ends : f s = endCycle s := by rw [h]; simp [noReply, awaited]
  rw [exec_quiet_event running event (by rw [ends]; rfl), ends]

end

/-- The record that an alert leaves, and its notice where it is the first. -/
def alertKept (k : Nat) (kind : AlertKind) (detail : Half) (s : State) : State :=
  (s.setLine
    { s.line with
      alerts := s.line.alerts ++ [{ car := k, kind := kind, detail := detail, position := s.odo.pos }] }).raiseIf
    s.line.alerts.isEmpty .alerts noFlag

theorem keepAlert_mild {kind : AlertKind} (mild : kind = .pressure ∨ kind = .supply ∨ kind = .note) (k : Nat)
    (detail : Half) (s : State) : keepAlert k kind detail s = alertKept k kind detail s := by
  rcases mild with rfl | rfl | rfl <;> rfl

theorem keepAlert_severe {kind : AlertKind} (severe : kind = .actuator ∨ kind = .overtravel ∨ kind = .sensor) (k : Nat)
    (detail : Half) (s : State) : keepAlert k kind detail s = addFault k .alert (alertKept k kind detail s) := by
  rcases severe with rfl | rfl | rfl <;> rfl

/-- Either way the record and the ALERTS notice are those of the alert (R158, R163). -/
theorem keepAlert_keeps (k : Nat) (kind : AlertKind) (detail : Half) (s : State) :
    (keepAlert k kind detail s).line = (alertKept k kind detail s).line ∧
    (keepAlert k kind detail s).link.notices.alerts = (alertKept k kind detail s).link.notices.alerts := by
  change (if isSevere kind then addFault k .alert (alertKept k kind detail s) else alertKept k kind detail s).line = _ ∧
    (if isSevere kind then addFault k .alert (alertKept k kind detail s)
      else alertKept k kind detail s).link.notices.alerts = _
  split
  · rw [addFault_frame]
    exact ⟨rfl, rfl⟩
  · exact ⟨rfl, rfl⟩

theorem alertKept_line (k : Nat) (kind : AlertKind) (detail : Half) (s : State) :
    (alertKept k kind detail s).line =
      { s.line with
        alerts := s.line.alerts ++ [{ car := k, kind := kind, detail := detail, position := s.odo.pos }] } := by
  unfold alertKept
  cases s.line.alerts.isEmpty <;> rfl

/-- The ALERTS notice waits once a record does (R163). -/
theorem alertKept_notice (k : Nat) (kind : AlertKind) (detail : Half) (s : State) :
    (alertKept k kind detail s).link.notices.alerts.pending = true ↔
      s.link.notices.alerts.pending = true ∨ s.line.alerts = [] := by
  unfold alertKept
  cases s.line.alerts with
  | nil => exact ⟨fun _ => .inr rfl, fun _ => rfl⟩
  | cons r rest => exact ⟨.inl, fun h => h.elim id fun no => by cases no⟩

theorem alertKept_chans (k : Nat) (kind : AlertKind) (detail : Half) (s : State) :
    (alertKept k kind detail s).chans = s.chans := by
  unfold alertKept
  cases s.line.alerts.isEmpty <;> rfl

/-- The fault of a severe alert, read from the state before the record was kept. -/
theorem alertKept_addsFault {s t : State} {k : Nat} {d : Channel} {kind : AlertKind} {detail : Half}
    (place : s.chans[k]? = some d) (chans : t.chans = (addFault k .alert (alertKept k kind detail s)).chans)
    (notice : t.link.notices.cars = (addFault k .alert (alertKept k kind detail s)).link.notices.cars) :
    AddsFault .alert k d s t := by
  have same := alertKept_chans k kind detail s
  refine (addFault_adds (s := alertKept k kind detail s) .alert (by rwa [same])).congr (fun _ _ => by rw [same])
    (by rw [same]) ?_ ?_ chans notice <;>
    (unfold alertKept; cases s.line.alerts.isEmpty <;> rfl)

/-! ## NAME, PARK and TAKE delivered (R158, R160, R161) -/

section
variable {s : State} (cycling : s.line.state = .cycling)
include cycling

theorem echoMatched_named {x : Serial} {a : Nat} (h : s.line.exch = .echo (.name x a)) :
    echoMatched s = endCycle (nodeJoined x a (s.setLine { s.line with echoCount := 0 })) := by
  rw [echoMatched_sent h]
  simp [delivered, cycling, State.setLine]

theorem echoMatched_parked {x : Serial} (h : s.line.exch = .echo (.park x)) :
    echoMatched s =
      endCycle ((parkSerial x (s.setLine { s.line with echoCount := 0 })).raise .line flagForeign) := by
  rw [echoMatched_sent h]
  simp [delivered, cycling, State.setLine]

end

theorem echoMatched_taken {s : State} {a : Nat} {kind : AlertKind} {detail : Half}
    (h : s.line.exch = .takeEcho a (some (kind, detail))) :
    echoMatched s = endCycle (keepAlert (a - 1) kind detail (s.setLine { s.line with echoCount := 0 })) := by
  simp [echoMatched, h]

/-- Settles O56: the keys of the window, then each frame delivered, then the alert. -/
theorem callWindowsTakeAlertsAndJoins : Obligations.CallWindowsTakeAlertsAndJoins := by
  intro s running
  have echo := exec_frameEcho running
  refine ⟨fun window => ⟨fun key nobody => ?_, fun a => exec_contentionKey_quiet running window rfl rfl,
      fun x k own once unbound => ?_, fun x k d own once bound place => ⟨_, exec_contentionKey running window _, ?_⟩,
      fun x f stranger table => ?_⟩,
    fun x k c cycling sent inside place entry => ⟨_, echo, ?_⟩,
    fun x a cycling sent low high => ⟨_, echo, ?_⟩, fun x cycling sent => ?_,
    fun a b c angle cond flags acc ok v kind detail awaited bad => ?_,
    fun a kind detail awaited => ⟨fun inside bound => ⟨fun room => ?_, fun full => ?_⟩, fun other => ?_⟩,
    fun a kind detail sent => ⟨_, echo, ?_⟩⟩
  · rcases nobody with rfl | rfl <;> exact exec_contentionKey_quiet running window rfl rfl
  · exact exec_contentionKey_quiet running window (answerJoin_car (carOfSerial_some own once) unbound) rfl
  · have restart : readKey (.join x) s = _ := answerJoin_restart (carOfSerial_some own once) bound
    rw [restart, addFault_frame]
    exact ⟨rfl, rfl, rfl, unbind_addsFault place rfl rfl⟩
  · have nobody := carOfSerial_none.2 stranger
    have dropped : f = s.line.foreign.drop x := Foreign.ext_get fun b => by rw [table, Foreign.get_drop]
    refine ⟨fun a low high free above => ?_, fun full => ?_⟩
    · exact exec_contentionKey_quiet running window
        (answerJoin_foreign nobody dropped (Foreign.highestFree_some.2 ⟨low, high, free, above⟩)) rfl
    · exact exec_contentionKey_quiet running window (answerJoin_parked nobody dropped (Foreign.highestFree_none.2
        ⟨full 13 (by omega) (by omega), full 14 (by omega) (by omega), full 15 (by omega) (by omega)⟩)) rfl
  · have car : k + 1 ≤ 12 := by omega
    rw [echoMatched_named cycling sent, nodeJoined, if_pos car, Nat.add_sub_cancel]
    exact ⟨rfl, rfl, modify_place place _, rfl⟩
  · have foreign : ¬a ≤ 12 := by omega
    have put := fun b => Foreign.get_put s.line.foreign a b (some x) (by omega)
    rw [echoMatched_named cycling sent, nodeJoined, if_neg foreign]
    exact ⟨rfl, rfl, rfl, rfl, (put a).trans (if_pos rfl), fun b other => (put b).trans (if_neg other), rfl⟩
  · rw [echo, echoMatched_parked cycling sent, parkSerial]
    by_cases room : s.line.parked.length < 24
    · rw [if_pos room, if_pos (by exact room)]
      rfl
    · rw [if_neg room, if_neg (by exact room)]
      rfl
  · rcases bad with rfl | rfl | rfl | ⟨rfl, other⟩
    · exact exec_unanswered running awaited rfl rfl
    · exact exec_unanswered running awaited rfl (hearStat_bad (by simp [awaited]) _ _ _ _)
    · exact exec_unanswered running awaited rfl (hearMrsp_bad (.inl (by simp [awaited])) _ _)
    · exact exec_unanswered running awaited rfl (hearAlrt_bad (by rw [awaited]; simpa using other.symm) _ _)
  · exact exec_alrt running awaited ((if_pos ⟨inside.1, inside.2, bound⟩).trans (if_pos room)) rfl
  · exact exec_alrt running awaited ((if_pos ⟨inside.1, inside.2, bound⟩).trans (if_neg (Nat.not_lt.2 full))) rfl
  · refine exec_alrt running awaited (if_neg fun ⟨low, high, bound⟩ => ?_) rfl
    rcases other with outside | unbound
    · exact outside ⟨low, high⟩
    · rw [unbound] at bound
      cases bound
  · rw [echoMatched_taken sent]
    obtain ⟨line, notice⟩ := keepAlert_keeps (a - 1) kind detail (s.setLine { s.line with echoCount := 0 })
    rw [alertKept_line] at line
    refine ⟨rfl, congrArg CarLine.alerts line, ?_, fun mild => ?_, fun d severe place => ?_⟩
    · refine Iff.trans ?_ (alertKept_notice (a - 1) kind detail (s.setLine { s.line with echoCount := 0 }))
      rw [← notice]
      rfl
    · rw [keepAlert_mild mild]
      exact alertKept_chans _ _ _ _
    · rw [keepAlert_severe severe]
      exact (alertKept_addsFault (s := s.setLine { s.line with echoCount := 0 }) place rfl rfl).congr
        (fun _ _ => rfl) rfl rfl rfl rfl rfl

end Sys2Proof.Machine

namespace Sys2Proof.Machine

open Sys2Proof

/-! ## A serial's one address (R143) -/

/-- Two cars of a formation that passes its checks have no serial in common (R5). -/
theorem ownSerial_once {s : State} (formation : FormationLaw s) {j k : Nat} {x : Serial}
    (hj : ownSerial s j = some x) (hk : ownSerial s k = some x) : j = k := by
  obtain ⟨-, -, -, -, -, -, -, serials⟩ := formation
  have node {i : Nat} (h : ownSerial s i = some x) :
      ∃ (inside : i < s.cars.length) (n : CarNode), s.cars[i].node = some n ∧ n.serial = x := by
    obtain ⟨n, hn, serial⟩ := Option.map_eq_some_iff.1 h
    obtain ⟨c, place, node⟩ := Option.bind_eq_some_iff.1 hn
    obtain ⟨inside, rfl⟩ := List.getElem?_eq_some_iff.1 place
    exact ⟨inside, n, node, serial⟩
  obtain ⟨insideJ, m, nodeJ, serialJ⟩ := node hj
  obtain ⟨insideK, n, nodeK, serialK⟩ := node hk
  have apart := List.pairwise_iff_getElem.1 serials
  rcases Nat.lt_trichotomy j k with before | same | after
  · exact absurd (serialJ.trans serialK.symm) (apart j k insideJ insideK before m n nodeJ nodeK)
  · exact same
  · exact absurd (serialK.trans serialJ.symm) (apart k j insideK insideJ after n m nodeK nodeJ)

/-- Settles O19: a bound node is its car's, two cars share no serial, and a foreign serial is no car's. -/
theorem eachSerialHoldsOneAddress : Obligations.EachSerialHoldsOneAddress := by
  rintro s formation ⟨own, -, -⟩ ⟨foreign, once, -⟩
  refine ⟨fun j k x hj hk => ownSerial_once formation (own j x hj) (own k x hk), once, fun k a x bound held => ?_⟩
  exact carOfSerial_none.1 (foreign a x held) k (own k x bound)

end Sys2Proof.Machine

namespace Sys2Proof.Machine

open Sys2Proof

/-! ## What leaves the car line, and of the host link changes notices and the reply alone -/

/-- Between two states the car line stands, and of the host link at most notices change and a reply is placed. -/
structure Quiet (s t : State) : Prop where
  line : t.line = s.line
  link : t.link = { s.link with notices := t.link.notices, reply := t.link.reply }
  reply : s.link.reply.isSome = true → t.link.reply.isSome = true

namespace Quiet

theorem refl {s : State} : Quiet s s := ⟨rfl, rfl, id⟩

theorem trans {s t u : State} (h : Quiet s t) (g : Quiet t u) : Quiet s u :=
  ⟨g.line.trans h.line, by rw [g.link, h.link], fun r => g.reply (h.reply r)⟩

/-- At most notices change. -/
theorem raised {s t : State} {n : Notices} (line : t.line = s.line) (link : t.link = { s.link with notices := n }) :
    Quiet s t :=
  ⟨line, by rw [link], fun r => by rw [link]; exact r⟩

/-- The line and the link stand. -/
theorem still {s t : State} (line : t.line = s.line) (link : t.link = s.link) : Quiet s t :=
  raised line (n := s.link.notices) link

theorem respond {s t : State} (h : Quiet s t) (f : Frame) : Quiet s (t.respond f) :=
  h.trans ⟨rfl, rfl, fun _ => rfl⟩

/-- A reply is placed. -/
theorem answered {s t : State} {n : Notices} {f : Frame} (line : t.line = s.line)
    (link : t.link = { s.link with notices := n, reply := some f }) : Quiet s t :=
  ⟨line, by rw [link], fun _ => by rw [link]; rfl⟩

/-- A request is refused, or a query answered. -/
theorem answer (s : State) (f : Frame) : Quiet s (s.respond f) := refl.respond f

theorem raise (s : State) (k : NoticeKind) (flag : Half) : Quiet s (s.raise k flag) := raised rfl rfl

theorem ofChannels {s t : State} (h : OnlyChannels s t) : Quiet s t := by
  obtain ⟨_, _, _, rfl⟩ := h
  exact raised rfl rfl

/-! ### The geometry store and the odometer -/

theorem evaluateLookAhead (s : State) : Quiet s (evaluateLookAhead s) :=
  raised (State.train_line (evaluateLookAhead_train s)) (evaluateLookAhead_link s)

theorem handleOpenBatch (tag : Byte) (declared : Word) (s : State) : Quiet s (handleOpenBatch tag declared s) := by
  unfold Machine.handleOpenBatch
  split
  · exact answered rfl rfl
  · exact answer s _

theorem handleAddSegments (tag count : Byte) (records : List SegmentWire) (s : State) :
    Quiet s (handleAddSegments tag count records s) := by
  unfold Machine.handleAddSegments
  split
  · exact answer s _
  · split
    · exact answer s _
    · split
      · exact answer s _
      · split
        · exact answer s _
        · exact answered rfl rfl

theorem handleCloseBatch (tag count : Byte) (s : State) : Quiet s (handleCloseBatch tag count s) := by
  unfold Machine.handleCloseBatch
  split
  · exact answer s _
  · next b _ =>
    split
    · exact answered rfl rfl
    · have committed : Quiet s (s.setGeo { s.geo with committed := s.geo.committed ++ b.staged, batch := none }) :=
        still rfl rfl
      exact (committed.trans (evaluateLookAhead _)).respond _

theorem handleTruncate (tag : Byte) (x : Word) (s : State) : Quiet s (handleTruncate tag x s) := by
  unfold Machine.handleTruncate
  dsimp only
  split
  · exact answer s _
  · split
    · exact answer s _
    · split
      · exact answer s _
      · have cut : Quiet s (s.setGeo { s.geo with committed := cutList x.toInt s.geo.committed }) := still rfl rfl
        exact (cut.trans (evaluateLookAhead _)).respond _

theorem handleResolveCapture (tag : Byte) (number : Half) (x : Word) (s : State) :
    Quiet s (handleResolveCapture tag number x s) := by
  have fixed (n : Nat) (d : Int) : Quiet s (applyFix n d s) := by
    have base : Quiet s (fixBase n d s) := raised rfl rfl
    rw [applyFix_eq]
    exact base.trans (evaluateLookAhead _)
  unfold Machine.handleResolveCapture
  dsimp only
  split
  · exact answer s _
  · split
    · exact (fixed _ _).respond _
    · split
      · split <;> exact answer s _
      · exact answer s _

theorem failTacho (n : TachoName) (s : State) : Quiet s (failTacho n s) := by
  rw [failTacho_eq]
  exact raised rfl rfl

theorem takeSlot (s : State) : Quiet s (takeSlot s) := by
  have base : Quiet s (slotBase s) := raised rfl rfl
  rw [takeSlot_eq]
  split
  · exact base.trans (raised (State.train_line (slotInRun_train _ _)) (slotInRun_link _ _))
  · exact base

theorem acceptHigh (s : State) : Quiet s (acceptHigh s) := by
  have accepted : Quiet s (s.setOdo { s.odo with marker := true, markerCount := 0 }) := still rfl rfl
  refine accepted.trans ?_
  change Quiet _ (captureEdge (s.setOdo { s.odo with marker := true, markerCount := 0 }))
  rcases captureEdge_cases (s.setOdo { s.odo with marker := true, markerCount := 0 }) with
    ⟨-, e⟩ | ⟨-, -, e⟩ | ⟨n, -, -, e⟩ <;> rw [e]
  · exact refl
  · exact raise _ _ _
  · rw [appendCapture_eq]
    exact raised rfl rfl

theorem sampleMarker (high : Bool) (s : State) : Quiet s (sampleMarker high s) := by
  unfold Machine.sampleMarker
  split
  · exact still rfl rfl
  · split
    · exact still rfl rfl
    · split
      · exact acceptHigh s
      · exact still rfl rfl

theorem markerRises (s : State) : Quiet s (markerRises s) := by
  unfold Machine.markerRises
  split
  · exact refl
  · exact acceptHigh s

theorem takeSample (accel : Option Int) (s : State) : Quiet s (takeSample accel s) := by
  rw [takeSample_eq]
  exact still rfl rfl

/-! ### The channels -/

theorem addFault (k : Nat) (kind : FaultKind) (s : State) : Quiet s (addFault k kind s) :=
  ofChannels (.addFault k kind s)

theorem takeTargets (s : State) : Quiet s (takeTargets s) := by
  cases h : s.plan.delivered with
  | none => rw [takeTargets_none h]; exact refl
  | some l => rw [takeTargets_some h]; exact still rfl rfl

theorem testTracking (k : Nat) (s : State) : Quiet s (testTracking k s) := by
  unfold Machine.testTracking
  split
  · exact ofChannels (.trackingTest k s)
  · exact refl

theorem handleClearCarFault (tag car : Byte) (s : State) : Quiet s (handleClearCarFault tag car s) := by
  unfold Machine.handleClearCarFault
  dsimp only
  split
  · exact answer s _
  · split
    · exact answer s _
    · split
      · exact answer s _
      · exact answered rfl rfl

theorem handleQueryCar (tag car : Byte) (s : State) : Quiet s (handleQueryCar tag car s) := by
  unfold Machine.handleQueryCar
  dsimp only
  split
  · exact answer s _
  · split
    · exact answered rfl rfl
    · exact answer s _

/-! ### The mode controller and the store -/

theorem leaveActive (m : Mode) (c : Cause) (s : State) : Quiet s (leaveActive m c s) := raised rfl rfl

theorem acceptAsserted (s : State) : Quiet s (acceptAsserted s) := by
  have latched : Quiet s (s.setCtl { s.ctl with inhibit := true, inhibitCount := 0, latch := true }) := still rfl rfl
  unfold Machine.acceptAsserted
  dsimp only
  split
  · exact latched.trans (leaveActive _ _ _)
  · exact latched

theorem sampleInhibit (asserted : Bool) (s : State) : Quiet s (sampleInhibit asserted s) := by
  unfold Machine.sampleInhibit
  split
  · exact still rfl rfl
  · split
    · exact still rfl rfl
    · split
      · exact acceptAsserted s
      · exact still rfl rfl

theorem inhibitAsserted (s : State) : Quiet s (inhibitAsserted s) := by
  unfold Machine.inhibitAsserted
  split
  · exact refl
  · exact acceptAsserted s

theorem inhibitReleased (s : State) : Quiet s (inhibitReleased s) := by
  unfold Machine.inhibitReleased
  split
  · exact still rfl rfl
  · exact refl

theorem handleCommission (tag : Byte) (s : State) : Quiet s (handleCommission tag s) := by
  unfold Machine.handleCommission
  split
  · exact answered rfl rfl
  · exact answer s _

theorem handleReturnToSetup (tag : Byte) (s : State) : Quiet s (handleReturnToSetup tag s) := by
  unfold Machine.handleReturnToSetup
  split
  · exact answer s _
  · exact answered rfl rfl

theorem handleStartRun (tag : Byte) (origin : Word) (s : State) : Quiet s (handleStartRun tag origin s) := by
  unfold Machine.handleStartRun
  split
  · exact answered rfl rfl
  · exact answer s _

theorem handleEnableTilt (tag : Byte) (s : State) : Quiet s (handleEnableTilt tag s) := by
  unfold Machine.handleEnableTilt
  split
  · exact answer s _
  · split
    · exact answer s _
    · exact answered rfl rfl

theorem handleResumeTilt (tag : Byte) (s : State) : Quiet s (handleResumeTilt tag s) := by
  unfold Machine.handleResumeTilt
  split
  · exact answer s _
  · exact answered rfl rfl

theorem handleSetParameters (tag : Byte) (v : Vector Word 28) (s : State) :
    Quiet s (handleSetParameters tag v s) := by
  unfold Machine.handleSetParameters
  split
  · exact answer s _
  · dsimp only
    split <;> exact answered rfl rfl

end Quiet

end Sys2Proof.Machine

namespace Sys2Proof.Machine

open Sys2Proof

/-! ## The ends of a muster and of the line (R150, R151, R162) -/

/-- The completion's body reads the bindings, the foreign-node table and the parked list (R191). -/
theorem rollCallBody_congr {s t : State} (cars : t.cars = s.cars) (nodes : t.line.nodes = s.line.nodes)
    (foreign : t.line.foreign = s.line.foreign) (parked : t.line.parked = s.line.parked) :
    rollCallBody t = rollCallBody s := by
  simp only [rollCallBody, boundCount, missingCount, tiltingCount, carIndexes, isBound_congr nodes,
    isTilting_congr cars, cars, foreign, parked]

/-- The completions of the RollCall in progress, if any (R150, R151). -/
def rollCallFrames (r : ResultCode) (d : Detail) (s : State) : List Frame :=
  (s.line.muster.map (fun m => replyFrame 0x30#8 m.tag r d 0 (rollCallBody s))).toList

/-- The completion reads the bindings, the foreign-node table, the parked list and the muster. -/
theorem rollCallFrames_congr {s t : State} (r : ResultCode) (d : Detail) (cars : t.cars = s.cars)
    (nodes : t.line.nodes = s.line.nodes) (foreign : t.line.foreign = s.line.foreign)
    (parked : t.line.parked = s.line.parked) (muster : t.line.muster = s.line.muster) :
    rollCallFrames r d t = rollCallFrames r d s := by
  rw [rollCallFrames, rollCallFrames, rollCallBody_congr cars nodes foreign parked, muster]

/-- A RollCall completed: the muster in progress is over, and its completion joins the list. -/
theorem completeRollCall_eq (r : ResultCode) (d : Detail) (s : State) :
    completeRollCall r d s =
      { s with
        line := { s.line with muster := none }
        link := { s.link with completions := s.link.completions ++ rollCallFrames r d s } } := by
  rcases completeRollCall_cases r d s with ⟨none, e⟩ | ⟨m, some, e⟩ <;> rw [e]
  · simp only [rollCallFrames, none, Option.map_none, Option.toList_none, List.append_nil]
    rw [← none]
  · simp only [rollCallFrames, some, Option.map_some, Option.toList_some]

/-- The end of a muster: the line is CYCLING and quiet, CENTRE_OK is re-evaluated, OVERFULL is raised where the last
round drew, and the RollCall is completed OK (R33, R150). -/
theorem endMuster_eq (overfull : Bool) (s : State) :
    endMuster overfull s =
      { s with
        ctl := { s.ctl with centreOk := centreConditions (endMuster overfull s) }
        line := { s.line with state := .cycling, exch := .quiet, muster := none }
        link := { s.link with
                  completions := s.link.completions ++ rollCallFrames .ok .none s
                  notices := if overfull then s.link.notices.raise .line 8#16 else s.link.notices } } := by
  have level : centreConditions (endMuster overfull s) =
      centreConditions (s.setLine { s.line with state := .cycling, exch := .quiet }) := by
    refine centreConditions_view ?_
    rw [endMuster, completeRollCall_eq, State.raiseIf_eq]
    rfl
  rw [level, endMuster, completeRollCall_eq, State.raiseIf_eq]
  rfl

theorem OnlyChannels.haltCar (s : State) (k : Nat) : OnlyChannels s (haltCar s k) := by
  unfold Machine.haltCar
  split
  · exact addFault _ _ _
  · exact refl

theorem OnlyChannels.haltCars (ks : List Nat) (s : State) : OnlyChannels s (ks.foldl Machine.haltCar s) := by
  induction ks generalizing s with
  | nil => exact refl
  | cons k ks ih => exact (haltCar s k).trans (ih _)

/-- The state of a halt once the bound cars have taken their fault (R162, steps 1 to 3). -/
def haltedCars (s : State) : State :=
  (carIndexes s).foldl haltCar (s.setLine { s.line with state := .halted, echoCount := 0, exch := .quiet }).reevaluate

theorem haltedCars_frame (s : State) :
    haltedCars s =
      { s with
        chans := (haltedCars s).chans
        line := { s.line with state := .halted, echoCount := 0, exch := .quiet }
        ctl := { s.ctl with centreOk := (haltedCars s).ctl.centreOk }
        link := { s.link with notices := { s.link.notices with cars := (haltedCars s).link.notices.cars } } } :=
  (OnlyChannels.haltCars _ _).eq

/-- The mode controller's part of a halt: ACTIVE and INHIBITED become STANDBY, with the cause, the return of the
FOLLOWING cars and the MODE notice (R31). -/
theorem reportHalt_eq (s : State) :
    reportHalt s =
      { s with
        chans := if s.ctl.mode = .active ∨ s.ctl.mode = .inhibited then s.chans.map Channel.toReturning else s.chans
        ctl := { s.ctl with
                 mode := if s.ctl.mode = .active ∨ s.ctl.mode = .inhibited then .standby else s.ctl.mode
                 cause := if s.ctl.mode = .active ∨ s.ctl.mode = .inhibited then .lineHalted else s.ctl.cause
                 centreOk := (reportHalt s).ctl.centreOk }
        link := { s.link with
                  notices := if s.ctl.mode = .active ∨ s.ctl.mode = .inhibited then s.link.notices.raise .mode noFlag
                    else s.link.notices } } := by
  by_cases withdrawn : s.ctl.mode = .active ∨ s.ctl.mode = .inhibited
  · simp only [reportHalt, if_pos withdrawn]
    rfl
  · simp only [reportHalt, if_neg withdrawn]

/-- The halt of the line, block by block: the bound cars fail, the queue and the muster are completed, the mode
controller hears of it and LINE is raised (R31, R162). -/
theorem haltLine_eq (s : State) :
    haltLine s =
      { s with
        chans := if s.ctl.mode = .active ∨ s.ctl.mode = .inhibited then
            (haltedCars s).chans.map Channel.toReturning else (haltedCars s).chans
        ctl := { s.ctl with
                 mode := if s.ctl.mode = .active ∨ s.ctl.mode = .inhibited then .standby else s.ctl.mode
                 cause := if s.ctl.mode = .active ∨ s.ctl.mode = .inhibited then .lineHalted else s.ctl.cause
                 centreOk := false }
        line := { s.line with state := .halted, echoCount := 0, exch := .quiet, maint := [], muster := none }
        link := { s.link with
                  completions := s.link.completions ++ s.line.maint.map (fun e => transferFrame e .lineStopped 0#16) ++
                    rollCallFrames .refused .halted s
                  notices :=
                    Notices.raise (if s.ctl.mode = .active ∨ s.ctl.mode = .inhibited then
                        Notices.raise { s.link.notices with cars := (haltedCars s).link.notices.cars } .mode noFlag
                      else { s.link.notices with cars := (haltedCars s).link.notices.cars }) .line 1#16 } } := by
  have frames : rollCallFrames .refused .halted (flushMaintenance (haltedCars s)) =
      rollCallFrames .refused .halted s := by
    rw [haltedCars_frame]
    exact rollCallFrames_congr _ _ rfl rfl rfl rfl rfl
  have whole : haltLine s = ((reportHalt (completeRollCall .refused .halted (flushMaintenance
      (haltedCars s)))).raise .line flagLineHalted).reevaluate := rfl
  rw [whole, completeRollCall_eq, frames, reportHalt_eq, State.reevaluate_eq, centreConditions_stopped]
  · rw [haltedCars_frame]
    rfl
  · rw [haltedCars_frame]
    nofun

end Sys2Proof.Machine

namespace Sys2Proof.Machine

open Sys2Proof

/-! ## The laws of the deferred work, the line's counts and the host link, each taken apart -/

/-- The RollCalls that are in progress or whose completion waits (R148, R178). -/
def rollCallsOutstanding (s : State) : Nat :=
  (if s.line.muster.isSome then 1 else 0) + s.link.completions.countP isRollCallCompletion

/-- The law of the deferred work by its parts. Its bound of five completions follows from the others. -/
structure DeferredInOrder (s : State) : Prop where
  transfers : transfersOutstanding s ≤ Config.transferCapacity
  muster : s.line.muster.isSome = true ↔ s.line.state = .mustering
  rollCalls : rollCallsOutstanding s ≤ 1
  kinds : ∀ f ∈ s.link.completions, isRollCallCompletion f = true ∨ isTransferCompletion f = true

theorem deferredLaw_iff (s : State) : DeferredLaw s ↔ DeferredInOrder s := by
  refine ⟨fun ⟨transfers, muster, rollCalls, kinds, _⟩ => ⟨transfers, muster, rollCalls, kinds⟩,
    fun ⟨transfers, muster, rollCalls, kinds⟩ => ⟨transfers, muster, rollCalls, kinds, ?_⟩⟩
  have others : s.link.completions.countP (fun f => ¬isRollCallCompletion f) ≤
      s.link.completions.countP isTransferCompletion :=
    List.countP_mono_left fun f member other => (kinds f member).resolve_left (by simpa using other)
  have whole := List.length_eq_countP_add_countP isRollCallCompletion (l := s.link.completions)
  unfold transfersOutstanding at transfers
  unfold rollCallsOutstanding at rollCalls
  have capacity : Config.transferCapacity = 4 := rfl
  omega

/-- The deferred work of t is no more than that of s: a transfer may be completed and a completion be sent, and the
muster may become a completion. -/
theorem DeferredInOrder.fewer {s t : State} (h : DeferredInOrder s)
    (transfers : transfersOutstanding t ≤ transfersOutstanding s)
    (muster : t.line.muster.isSome = true ↔ t.line.state = .mustering)
    (rollCalls : rollCallsOutstanding t ≤ rollCallsOutstanding s)
    (kinds : ∀ f ∈ t.link.completions,
      f ∈ s.link.completions ∨ isRollCallCompletion f = true ∨ isTransferCompletion f = true) : DeferredInOrder t :=
  ⟨transfers.trans h.transfers, muster, rollCalls.trans h.rollCalls,
    fun f member => (kinds f member).elim (h.kinds f) id⟩

/-- The line's counts and queues within their capacities, by their parts. -/
structure CarLine.Sound (l : CarLine) : Prop where
  echoCount : l.echoCount ≤ 2
  echoTotal : l.echoTotal ≤ Config.counterMax
  parked : l.parked.length ≤ Config.parkedCapacity
  alerts : l.alerts.length ≤ Config.alertCapacity
  taken : ∀ a x, l.exch = .takeEcho a (some x) → l.alerts.length < Config.alertCapacity

theorem lineLaw_iff (s : State) : LineLaw s ↔ s.line.Sound :=
  ⟨fun ⟨echoCount, echoTotal, parked, alerts, taken⟩ => ⟨echoCount, echoTotal, parked, alerts, taken⟩,
    fun ⟨echoCount, echoTotal, parked, alerts, taken⟩ => ⟨echoCount, echoTotal, parked, alerts, taken⟩⟩

/-- The line awaits no echo of a TAKE whose alert is to be kept. -/
def Exchange.keepsNone (e : Exchange) : Prop := ∀ a x, e ≠ .takeEcho a (some x)

theorem CarLine.Sound.withExch {l : CarLine} (h : l.Sound) {e : Exchange} (none : e.keepsNone) :
    CarLine.Sound { l with exch := e } :=
  ⟨h.echoCount, h.echoTotal, h.parked, h.alerts, fun a x take => absurd take (none a x)⟩

/-- A frame being collected has the length it announced (R173). -/
def Assembler.Collects (asm : Assembler) : Prop :=
  ∀ buffer left spoiled, asm = .collect buffer left spoiled →
    ∃ n rest, buffer = n :: rest ∧ 2 ≤ n.toNat ∧ n.toNat ≤ 250 ∧ 1 ≤ left ∧ buffer.length + left = n.toNat + 3

/-- The host link within its capacities, by its parts, but for what an idle transmitter leaves waiting. -/
structure HostLink.Sound (l : HostLink) : Prop where
  slot : l.slot.isSome = true → l.reply.isSome = true ∨ l.resetWaiting = true
  fifo : l.fifo.length ≤ Config.fifoCapacity
  bad : l.bad ≤ Config.counterMax
  broken : l.broken ≤ Config.counterMax
  refused : l.refused ≤ Config.counterMax
  period : l.period ≤ Config.reportingMax
  countdown : l.countdown ≤ l.period
  due : l.countdown = 0 → l.period = 0
  asm : l.asm.Collects

theorem isReady_false (s : State) : isReady s = false ↔ s.link.reply.isSome = true ∨ s.link.resetWaiting = true := by
  cases h : s.link.reply <;> simp [isReady, h]

theorem linkLaw_iff (s : State) :
    LinkLaw s ↔ (Settled s ∨ ∃ pending pins, s = State.afterReset pending pins) ∧ s.link.Sound := by
  simp only [LinkLaw, isReady_false]
  exact ⟨fun ⟨settled, slot, fifo, bad, broken, refused, period, countdown, due, asm⟩ =>
      ⟨settled, slot, fifo, bad, broken, refused, period, countdown, due, asm⟩,
    fun ⟨settled, slot, fifo, bad, broken, refused, period, countdown, due, asm⟩ =>
      ⟨settled, slot, fifo, bad, broken, refused, period, countdown, due, asm⟩⟩

namespace HostLink.Sound

/-- The frames and notices that wait to be sent, and the frame being sent, are no part of it. -/
theorem outgoing {l : HostLink} (h : l.Sound) (completions : List Frame) (notices : Notices)
    (sending : Option (List (BitVec 11))) :
    HostLink.Sound { l with completions := completions, notices := notices, sending := sending } :=
  ⟨h.slot, h.fifo, h.bad, h.broken, h.refused, h.period, h.countdown, h.due, h.asm⟩

/-- Notices change, and a reply may be placed. -/
theorem replies {l : HostLink} (h : l.Sound) (notices : Notices) {reply : Option Frame}
    (kept : l.reply.isSome = true → reply.isSome = true) :
    HostLink.Sound { l with notices := notices, reply := reply } :=
  ⟨fun slot => (h.slot slot).imp_left kept, h.fifo, h.bad, h.broken, h.refused, h.period, h.countdown, h.due, h.asm⟩

theorem afterReset : HostLink.afterReset.Sound :=
  ⟨nofun, by decide, by decide, by decide, by decide, by decide, by decide, fun _ => rfl, nofun⟩

end HostLink.Sound

/-! ## What carries the laws over -/

/-- What holds of the deferred work, of the line's counts and of the host link in s still holds in t, and a frame being
sent goes on. -/
structure CarriesCounts (s t : State) : Prop where
  deferred : DeferredInOrder s → DeferredInOrder t
  line : s.line.Sound → t.line.Sound
  link : s.link.Sound → t.link.Sound
  busy : s.link.sending ≠ none → t.link.sending ≠ none

namespace CarriesCounts

theorem refl {s : State} : CarriesCounts s s := ⟨id, id, id, id⟩

theorem trans {s t u : State} (h : CarriesCounts s t) (g : CarriesCounts t u) : CarriesCounts s u :=
  ⟨g.deferred ∘ h.deferred, g.line ∘ h.line, g.link ∘ h.link, g.busy ∘ h.busy⟩

theorem quiet {s t : State} (h : Quiet s t) : CarriesCounts s t where
  deferred d := by
    obtain ⟨transfers, muster, rollCalls, kinds⟩ := d
    have completions : t.link.completions = s.link.completions := by rw [h.link]
    constructor <;> simpa only [transfersOutstanding, rollCallsOutstanding, h.line, completions]
  line l := by rwa [h.line]
  link l := by rw [h.link]; exact l.replies _ h.reply
  busy b := by rw [h.link]; exact b

/-- The line changes beside its state, its queue and its muster. -/
theorem ofLine {s : State} (l : CarLine) (state : l.state = s.line.state) (maint : l.maint = s.line.maint)
    (muster : l.muster.isSome = s.line.muster.isSome) (sound : s.line.Sound → l.Sound) :
    CarriesCounts s (s.setLine l) where
  deferred d := by
    obtain ⟨transfers, inProgress, rollCalls, kinds⟩ := d
    constructor <;>
      simpa only [transfersOutstanding, rollCallsOutstanding, State.setLine_line, State.setLine_link, state, maint,
        muster]
  line := sound
  link := id
  busy := id

theorem exch (s : State) {e : Exchange} (none : e.keepsNone) : CarriesCounts s (setExch e s) :=
  ofLine _ rfl rfl rfl fun h => h.withExch none

theorem send (f : LineFrame) (s : State) : CarriesCounts s (sendFrame f s) := exch s nofun

theorem endCycle (s : State) : CarriesCounts s (endCycle s) := exch s nofun

theorem openWindow (s : State) : CarriesCounts s (openWindow s) := send .call s

/-- The binding table changes. -/
theorem nodes (s : State) (l : List NodeLink) : CarriesCounts s (s.setLine { s.line with nodes := l }) :=
  ofLine _ rfl rfl rfl fun h => ⟨h.echoCount, h.echoTotal, h.parked, h.alerts, h.taken⟩

/-- The foreign-node table changes. -/
theorem foreign (s : State) (f : Foreign) : CarriesCounts s (s.setLine { s.line with foreign := f }) :=
  ofLine _ rfl rfl rfl fun h => ⟨h.echoCount, h.echoTotal, h.parked, h.alerts, h.taken⟩

end CarriesCounts

/-! ### The completions (R150, R151, R156, R166, R178) -/

theorem isTransferCompletion_frame (e : Transfer) (r : ResultCode) (value : Half) :
    isTransferCompletion (transferFrame e r value) = true ∧ isRollCallCompletion (transferFrame e r value) = false :=
  ⟨rfl, rfl⟩

/-- Entries of the maintenance queue that are completed count as before. -/
theorem countP_transferFrames (r : ResultCode) (value : Half) (l : List Transfer) :
    (l.map (fun e => transferFrame e r value)).countP isTransferCompletion = l.length ∧
      (l.map (fun e => transferFrame e r value)).countP isRollCallCompletion = 0 := by
  induction l with
  | nil => exact ⟨rfl, rfl⟩
  | cons e l ih =>
    obtain ⟨transfer, rollCall⟩ := isTransferCompletion_frame e r value
    simp [transfer, rollCall, ih]

/-- The completion of a muster counts as the muster did. -/
theorem countP_rollCallFrames (r : ResultCode) (d : Detail) (s : State) :
    (rollCallFrames r d s).countP isTransferCompletion = 0 ∧
      (rollCallFrames r d s).countP isRollCallCompletion = if s.line.muster.isSome then 1 else 0 := by
  unfold rollCallFrames
  cases s.line.muster <;> exact ⟨rfl, rfl⟩

theorem mem_transferFrames {f : Frame} {r : ResultCode} {value : Half} {l : List Transfer}
    (h : f ∈ l.map (fun e => transferFrame e r value)) : isTransferCompletion f = true := by
  obtain ⟨e, -, rfl⟩ := List.mem_map.1 h
  rfl

theorem mem_rollCallFrames {f : Frame} {r : ResultCode} {d : Detail} {s : State} (h : f ∈ rollCallFrames r d s) :
    isRollCallCompletion f = true := by
  unfold rollCallFrames at h
  cases muster : s.line.muster with
  | none => simp [muster] at h
  | some m =>
    obtain rfl : f = replyFrame 0x30#8 m.tag r d 0 (rollCallBody s) := by simpa [muster] using h
    rfl

/-- The front of the maintenance queue becomes completions, and so does the muster where it ends. -/
theorem DeferredInOrder.completes {s t : State} (h : DeferredInOrder s) {front rest : List Transfer} (r : ResultCode)
    (value : Half) (done : List Frame) (queue : s.line.maint = front ++ rest) (maint : t.line.maint = rest)
    (muster : t.line.muster.isSome = true ↔ t.line.state = .mustering)
    (ends : (done = [] ∧ t.line.muster.isSome = s.line.muster.isSome) ∨
      (t.line.muster = none ∧ ∃ r d, done = rollCallFrames r d s))
    (completions : t.link.completions =
      s.link.completions ++ front.map (fun e => transferFrame e r value) ++ done) : DeferredInOrder t := by
  obtain ⟨own, others⟩ := countP_transferFrames r value front
  have doneTransfers : done.countP isTransferCompletion = 0 := by
    rcases ends with ⟨rfl, -⟩ | ⟨-, r, d, rfl⟩
    · rfl
    · exact (countP_rollCallFrames r d s).1
  have doneCalls : (if t.line.muster.isSome then 1 else 0) + done.countP isRollCallCompletion =
      if s.line.muster.isSome then 1 else 0 := by
    rcases ends with ⟨rfl, same⟩ | ⟨none, r, d, rfl⟩
    · rw [same]
      rfl
    · rw [none, (countP_rollCallFrames r d s).2]
      exact Nat.zero_add _
  refine h.fewer ?_ muster ?_ fun f member => ?_
  · simp only [transfersOutstanding, queue, maint, completions, List.countP_append, List.length_append, own,
      doneTransfers]
    omega
  · simp only [rollCallsOutstanding, completions, List.countP_append, others]
    omega
  · rw [completions, List.append_assoc, List.mem_append, List.mem_append] at member
    rcases member with before | transfer | rollCall
    · exact .inl before
    · exact .inr (.inr (mem_transferFrames transfer))
    · rcases ends with ⟨rfl, -⟩ | ⟨-, r, d, rfl⟩
      · cases rollCall
      · exact .inr (.inl (mem_rollCallFrames rollCall))

end Sys2Proof.Machine

namespace Sys2Proof.Machine

open Sys2Proof

/-! ## The operations of the car line carry the counts over -/

namespace Quiet

/-- The line's exchange is set on both sides. -/
theorem exch {s t : State} (h : Quiet s t) (e : Exchange) : Quiet (setExch e s) (setExch e t) :=
  ⟨by simp only [setExch, State.setLine_line, h.line], h.link, h.reply⟩

/-- The alert kept changes the line alone, beside notices and its car's fault (R158, R163). -/
theorem keepAlert (k : Nat) (kind : AlertKind) (detail : Half) (s : State) :
    Quiet (s.setLine (alertKept k kind detail s).line) (keepAlert k kind detail s) := by
  have kept : Quiet (s.setLine (alertKept k kind detail s).line) (alertKept k kind detail s) := by
    refine raised (n := (alertKept k kind detail s).link.notices) rfl ?_
    unfold alertKept
    rw [State.raiseIf_eq]
    rfl
  change Quiet _ (if isSevere kind then Machine.addFault k .alert (alertKept k kind detail s) else _)
  split
  · exact kept.trans (addFault _ _ _)
  · exact kept

end Quiet

namespace CarriesCounts

/-- Of the host link only completions and notices change. -/
theorem ofParts {s t : State} {completions : List Frame} {notices : Notices}
    (link : t.link = { s.link with completions := completions, notices := notices })
    (deferred : DeferredInOrder s → DeferredInOrder t) (line : s.line.Sound → t.line.Sound) : CarriesCounts s t :=
  ⟨deferred, line, fun h => by rw [link]; exact h.outgoing _ _ _, fun h => by rw [link]; exact h⟩

theorem completeHead (r : ResultCode) (value : Half) (s : State) : CarriesCounts s (completeHead r value s) := by
  cases queue : s.line.maint with
  | nil => simp only [Machine.completeHead, queue]; exact refl
  | cons e rest =>
    rw [completeHead_cons queue]
    refine ofParts rfl (fun h => ?_) fun h => ⟨h.echoCount, h.echoTotal, h.parked, h.alerts, h.taken⟩
    exact h.completes (front := [e]) r value [] queue rfl h.muster (.inl ⟨rfl, rfl⟩) (by simp)

/-! ### The muster and the halt (R148, R150, R151, R162) -/

theorem endMuster (overfull : Bool) (s : State) : CarriesCounts s (endMuster overfull s) := by
  rw [endMuster_eq]
  refine ofParts rfl (fun h => ?_) fun h => ⟨h.echoCount, h.echoTotal, h.parked, h.alerts, nofun⟩
  exact h.completes (front := []) .ok 0#16 _ rfl rfl (iff_of_false nofun nofun) (.inr ⟨rfl, .ok, .none, rfl⟩) (by simp)

/-- A mismatch that halts the line leaves its count at 0 (R146, R162). -/
theorem haltLine (s : State) : CarriesCounts s (haltLine (countMismatch s)) := by
  rw [haltLine_eq]
  refine ofParts rfl (fun h => ?_) fun h =>
    ⟨Nat.zero_le _, countUp_le h.echoTotal, h.parked, h.alerts, nofun⟩
  exact h.completes .lineStopped 0#16 _ (List.append_nil _).symm rfl (iff_of_false nofun nofun)
    (.inr ⟨rfl, .refused, .halted, rfl⟩) rfl

theorem openRound (s : State) : CarriesCounts s (openRound s) :=
  (ofLine (s := s) { s.line with muster := s.line.muster.map (fun m => { m with round := m.round + 1 }) } rfl rfl
    (by simp) fun h => ⟨h.echoCount, h.echoTotal, h.parked, h.alerts, h.taken⟩).trans (send _ _)

theorem endRound (drew : Bool) (s : State) : CarriesCounts s (endRound drew s) := by
  unfold Machine.endRound
  split
  · exact endMuster _ _
  · exact openRound _

theorem hearMusterEnd (s : State) : CarriesCounts s (hearMusterEnd s) := by
  unfold Machine.hearMusterEnd
  split
  · exact endMuster _ _
  · exact refl

theorem haltCarrying (s : State) : CarriesCounts s (haltCarrying s) := by
  unfold Machine.haltCarrying
  split
  · exact haltLine s
  · exact refl

/-- A muster starts where no completion of an earlier one waits (R148). -/
theorem startMuster (tag : Byte) {s : State}
    (waiting : s.link.completions.any isRollCallCompletion = false) : CarriesCounts s (startMuster tag s) := by
  rw [startMuster_eq]
  refine ofParts rfl (fun h => ?_) fun h => ⟨Nat.zero_le _, h.echoTotal, Nat.zero_le _, h.alerts, fun a x => ?_⟩
  · obtain ⟨own, others⟩ := countP_transferFrames .lineStopped 0#16 s.line.maint
    have none : s.link.completions.countP isRollCallCompletion = 0 :=
      List.countP_eq_zero.2 fun f member => by simpa using List.any_eq_false.1 waiting f member
    refine ⟨?_, iff_of_true rfl rfl, ?_, fun f member => ?_⟩
    · have transfers := h.transfers
      simp only [transfersOutstanding, List.countP_append, own, List.length_nil] at transfers ⊢
      omega
    · simp only [rollCallsOutstanding, List.countP_append, others, none]
      exact Nat.le_refl 1
    · rcases List.mem_append.1 member with before | flushed
      · exact h.kinds f before
      · exact .inr (mem_transferFrames flushed)
  · dsimp only
    split <;> nofun

theorem handleRollCall (tag : Byte) (s : State) : CarriesCounts s (handleRollCall tag s) := by
  unfold Machine.handleRollCall
  split
  · exact quiet (.answer s _)
  · split
    · exact quiet (.answer s _)
    · next idle =>
      obtain ⟨-, waiting⟩ := not_or.1 idle
      split
      · exact quiet (.answer s _)
      · exact startMuster tag (by simpa using waiting)

theorem answerClaim (x : Serial) (s : State) : CarriesCounts s (answerClaim x s) := by
  unfold Machine.answerClaim
  split
  · exact send _ s
  · split
    · exact send _ s
    · split <;> exact send _ s

theorem hearRound (outcome : ClaimOutcome) (s : State) : CarriesCounts s (hearRound outcome s) := by
  unfold Machine.hearRound
  split
  · cases outcome with
    | noClaim => exact endMuster _ _
    | garbled => exact endRound _ _
    | claim x => exact answerClaim x s
  · exact refl

theorem parkSerial (x : Serial) (s : State) : CarriesCounts s (parkSerial x s) := by
  unfold Machine.parkSerial
  split
  · next room =>
    refine ofLine _ rfl rfl rfl fun h => ⟨h.echoCount, h.echoTotal, ?_, h.alerts, h.taken⟩
    rw [List.length_append]
    exact room
  · exact refl

/-! ### The bindings -/

theorem bindCar (k : Nat) (x : Serial) (s : State) : CarriesCounts s (bindCar k x s) :=
  (nodes s _).trans (quiet (.still rfl rfl))

theorem unbind (k : Nat) (s : State) : CarriesCounts s (unbind k s) := (nodes s _).trans (quiet (.still rfl rfl))

theorem addFault (k : Nat) (kind : FaultKind) (s : State) : CarriesCounts s (addFault k kind s) :=
  quiet (.addFault k kind s)

theorem loseNode (k : Nat) (s : State) : CarriesCounts s (loseNode k s) := (unbind k s).trans (addFault _ _ _)

theorem raise (s : State) (k : NoticeKind) (flag : Half) : CarriesCounts s (s.raise k flag) := quiet (.raise s k flag)

theorem answerJoin (x : Serial) (s : State) : CarriesCounts s (answerJoin x s) := by
  unfold Machine.answerJoin
  split
  · dsimp only
    split
    · exact ((unbind _ s).trans (addFault _ _ _)).trans (send _ _)
    · exact send _ s
  · dsimp only
    split <;> exact (foreign s _).trans (send _ _)

theorem hearKey (key : WindowKey) (s : State) : CarriesCounts s (hearKey key s) := by
  unfold Machine.hearKey
  split
  · cases key with
    | noCall => exact endCycle s
    | garbled => exact endCycle s
    | alert a => exact exch s nofun
    | join x => exact answerJoin x s
  · exact refl

/-! ### The line cycle -/

theorem startCycle (s : State) : CarriesCounts s (startCycle s) := by
  unfold Machine.startCycle
  split
  · have sampled : CarriesCounts s (takeSnapshot s) := quiet (.still rfl rfl)
    exact sampled.trans (send _ _)
  · exact refl

theorem maintenanceSlot (s : State) : CarriesCounts s (maintenanceSlot s) := by
  unfold Machine.maintenanceSlot
  split
  · exact openWindow s
  · split
    · exact send _ s
    · exact (completeHead _ _ _).trans (openWindow _)

theorem askAfter (a : Nat) (s : State) : CarriesCounts s (askAfter a s) := by
  unfold Machine.askAfter
  split
  · exact send _ s
  · exact maintenanceSlot s

theorem goodStat (a : Nat) (angle : Int) (cond : NodeCond) (flags : NodeFlags) (accel : Option Int) (s : State) :
    CarriesCounts s (goodStat a angle cond flags accel s) := by
  unfold Machine.goodStat
  split
  · have heard := (nodes s (s.line.nodes.modify (a - 1) (fun n => { n with miss := 0 }))).trans
      (quiet (.ofChannels (.takeStat (a - 1) (clampAbs angle Config.angleLimit) cond flags _)))
    dsimp only
    split
    · exact heard.trans (quiet (.takeSample _ _))
    · exact heard
  · exact refl

theorem missAt (a : Nat) (s : State) : CarriesCounts s (missAt a s) := by
  unfold Machine.missAt
  split
  · dsimp only
    split
    · exact refl
    · split
      · exact loseNode _ _
      · exact nodes s _
  · exact refl

theorem noReply (s : State) : CarriesCounts s (noReply s) := by
  unfold Machine.noReply
  split
  · exact (missAt _ _).trans (askAfter _ _)
  · exact (completeHead _ _ _).trans (openWindow _)
  · exact endCycle s
  all_goals exact refl

theorem hearStat (address : Nat) (angle : Int) (cond : NodeCond) (flags : NodeFlags) (accel : Option Int)
    (s : State) : CarriesCounts s (hearStat address angle cond flags accel s) := by
  unfold Machine.hearStat
  split
  · exact (goodStat _ _ _ _ _ _).trans (askAfter _ _)
  · exact noReply s

theorem hearNodeLost (car : Nat) (s : State) : CarriesCounts s (hearNodeLost car s) := by
  unfold Machine.hearNodeLost
  split
  · split
    · exact (loseNode _ _).trans (askAfter _ _)
    · exact loseNode _ _
  · exact refl

theorem hearMrsp (address : Nat) (accepted : Bool) (value : Half) (s : State) :
    CarriesCounts s (hearMrsp address accepted value s) := by
  unfold Machine.hearMrsp
  split
  · exact (completeHead _ _ _).trans (openWindow _)
  · exact noReply s

/-- A TAKE that keeps its alert is sent only where the alert queue has room (R158, R163). -/
theorem hearAlrt (address : Nat) (kind : AlertKind) (detail : Half) (s : State) :
    CarriesCounts s (hearAlrt address kind detail s) := by
  unfold Machine.hearAlrt answerAlert
  split
  · split
    · split
      · next room =>
        exact ofLine _ rfl rfl rfl fun h => ⟨h.echoCount, h.echoTotal, h.parked, h.alerts, fun _ _ _ => room⟩
      · exact send _ s
    · exact exch s nofun
  · exact noReply s

/-! ### The echo check (R146) -/

/-- An alert is kept where the queue has room, and the cycle ends (R158, R163). -/
theorem keepAlert (k : Nat) (kind : AlertKind) (detail : Half) {s : State}
    (room : s.line.Sound → s.line.alerts.length < Config.alertCapacity) :
    CarriesCounts s (Machine.endCycle (keepAlert k kind detail s)) := by
  have kept := (Quiet.keepAlert k kind detail s).exch .quiet
  rw [alertKept_line] at kept
  refine CarriesCounts.trans ?_ (quiet kept)
  refine ofLine _ rfl rfl rfl fun h => ⟨h.echoCount, h.echoTotal, h.parked, ?_, nofun⟩
  exact List.length_append.trans_le (room h)

theorem nodeJoined (x : Serial) (a : Nat) (s : State) : CarriesCounts s (nodeJoined x a s) := by
  unfold Machine.nodeJoined
  split
  · exact (bindCar _ _ _).trans (raise _ _ _)
  · exact (foreign s _).trans (raise _ _ _)

theorem nodeNamed (x : Serial) (a : Nat) (s : State) : CarriesCounts s (nodeNamed x a s) := by
  unfold Machine.nodeNamed
  split
  · split
    · exact refl
    · exact bindCar _ _ _
  · exact foreign s _

theorem delivered (f : LineFrame) (s : State) : CarriesCounts s (delivered f s) := by
  unfold Machine.delivered
  split
  · exact openRound s
  · exact exch s nofun
  · split
    · exact (nodeNamed _ _ _).trans (endRound _ _)
    · exact (nodeJoined _ _ _).trans (endCycle _)
  · split
    · exact (parkSerial _ s).trans (endRound _ _)
    · exact ((parkSerial _ s).trans (raise _ _ _)).trans (endCycle _)
  · exact askAfter _ s
  all_goals exact exch s nofun

theorem undelivered (f : LineFrame) (s : State) : CarriesCounts s (undelivered f s) := by
  unfold Machine.undelivered
  split
  · exact openRound s
  · exact endRound _ s
  · split
    · exact endRound _ s
    · exact endCycle s
  · split
    · exact endRound _ s
    · exact endCycle s
  · exact askAfter _ s
  · exact askAfter _ s
  all_goals exact exch s nofun

theorem resumeCut (s : State) : CarriesCounts s (resumeCut s) := by
  unfold Machine.resumeCut
  split
  · exact send _ s
  · exact exch s nofun

theorem echoMatched (s : State) : CarriesCounts s (echoMatched s) := by
  have matched : CarriesCounts s (s.setLine { s.line with echoCount := 0 }) :=
    ofLine _ rfl rfl rfl fun h => ⟨Nat.zero_le _, h.echoTotal, h.parked, h.alerts, h.taken⟩
  unfold Machine.echoMatched
  dsimp only
  split
  · exact matched.trans (delivered _ _)
  · next a kind detail take => exact matched.trans (keepAlert _ _ _ fun h => h.taken a _ take)
  · exact matched.trans (endCycle _)
  · exact matched.trans (resumeCut _)
  all_goals exact refl

/-- A mismatch below the third in a row is counted. -/
theorem countMismatch {s : State} (few : ¬3 ≤ (countMismatch s).line.echoCount) :
    CarriesCounts s (countMismatch s) :=
  ofLine _ rfl rfl rfl fun h => ⟨Nat.le_of_not_lt few, countUp_le h.echoTotal, h.parked, h.alerts, h.taken⟩

theorem echoMismatched (s : State) : CarriesCounts s (echoMismatched s) := by
  unfold Machine.echoMismatched
  dsimp only
  split
  · split
    · exact haltLine s
    · next few => exact (countMismatch few).trans (undelivered _ _)
  · split
    · exact haltLine s
    · next few => exact (countMismatch few).trans (endCycle _)
  · split
    · exact haltLine s
    · next few => exact (countMismatch few).trans (resumeCut _)
  all_goals exact refl

theorem hearEcho (isMatch : Bool) (s : State) : CarriesCounts s (hearEcho isMatch s) := by
  cases isMatch
  · exact echoMismatched s
  · exact echoMatched s

/-! ### The requests and the report -/

theorem handleReadAlerts (tag : Byte) (s : State) : CarriesCounts s (handleReadAlerts tag s) := by
  have emptied : CarriesCounts s (s.setLine { s.line with alerts := [] }) :=
    ofLine _ rfl rfl rfl fun h => ⟨h.echoCount, h.echoTotal, h.parked, Nat.zero_le _, fun _ _ _ => Nat.zero_lt_succ _⟩
  exact emptied.trans (quiet (.answer _ _))

/-- A NodeTransfer is accepted where fewer than four are outstanding (R165). -/
theorem handleNodeTransfer (tag car direction item : Byte) (value : Half) (s : State) :
    CarriesCounts s (handleNodeTransfer tag car direction item value s) := by
  unfold Machine.handleNodeTransfer
  dsimp only
  split
  · exact quiet (.answer s _)
  · split
    · exact quiet (.answer s _)
    · split
      · exact quiet (.answer s _)
      · split
        · exact quiet (.answer s _)
        · next room =>
          refine ⟨fun h => ⟨?_, h.muster, h.rollCalls, h.kinds⟩,
            fun h => ⟨h.echoCount, h.echoTotal, h.parked, h.alerts, h.taken⟩, id, id⟩
          simp only [transfersOutstanding, State.setLine_line, State.setLine_link, List.length_append,
            List.length_singleton] at room ⊢
          omega

/-- A formation is loaded where no muster is in progress (R4, R6). -/
theorem handleSetFormation (tag count : Byte) (records : List CarWire) (s : State) :
    CarriesCounts s (handleSetFormation tag count records s) := by
  unfold Machine.handleSetFormation
  split
  · exact quiet (.answer s _)
  · next line =>
    split
    · exact quiet (.answer s _)
    · have loaded : CarriesCounts s (loadFormation (records.map carOfWire) s) := by
        rw [loadFormation_eq]
        refine ofParts rfl (fun h => ?_) fun h =>
          ⟨Nat.zero_le _, h.echoTotal, h.parked, h.alerts, fun a x take => ?_⟩
        · have none : ¬s.line.muster.isSome = true := fun some => line (h.muster.1 some)
          exact h.completes .lineStopped 0#16 [] (List.append_nil _).symm rfl (iff_of_false none nofun)
            (.inl ⟨rfl, rfl⟩) (List.append_nil _).symm
        · cases exch : s.line.exch <;> simp [exch, Exchange.cutOff] at take
      exact loaded.trans (quiet (.answer _ _))

theorem handleReset (tag : Byte) (s : State) : CarriesCounts s (handleReset tag s) :=
  ⟨fun h => ⟨h.transfers, h.muster, h.rollCalls, h.kinds⟩, id,
    fun h => ⟨fun _ => .inr rfl, h.fifo, h.bad, h.broken, h.refused, h.period, h.countdown, h.due, h.asm⟩, id⟩

theorem handleSetReporting (tag : Byte) (period : Half) (s : State) :
    CarriesCounts s (handleSetReporting tag period s) := by
  have set : CarriesCounts s (s.setLink { s.link with
      period := reportingPeriod period.toNat, countdown := reportingPeriod period.toNat }) :=
    ⟨fun h => ⟨h.transfers, h.muster, h.rollCalls, h.kinds⟩, id,
      fun h => ⟨h.slot, h.fifo, h.bad, h.broken, h.refused, Nat.min_le_right _ _, Nat.le_refl _, id, h.asm⟩, id⟩
  exact set.trans (quiet (.answer _ _))

/-- A report counted leaves the countdown between 1 and its period (R183). -/
theorem countReport (s : State) : CarriesCounts s (countReport s) := by
  by_cases off : s.link.period = 0
  · rw [countReport_off off]
    exact refl
  · have counted (n : Nat) (notices : Notices) (low : n ≠ 0)
        (high : s.link.countdown ≤ s.link.period → n ≤ s.link.period) :
        CarriesCounts s (s.setLink { s.link with countdown := n, notices := notices }) :=
      ⟨fun h => ⟨h.transfers, h.muster, h.rollCalls, h.kinds⟩, id, fun h => ⟨h.slot, h.fifo, h.bad, h.broken,
        h.refused, h.period, high h.countdown, fun zero => absurd zero low, h.asm⟩, id⟩
    unfold Machine.countReport
    rw [if_neg off]
    dsimp only
    split
    · exact counted _ _ off fun _ => Nat.le_refl _
    · next more => exact counted _ s.link.notices more fun h => (Nat.sub_le _ _).trans h

theorem hearReport (s : State) : CarriesCounts s (hearReport s) := by
  unfold Machine.hearReport
  split
  · exact countReport s
  · exact refl

theorem computePlan (s : State) : CarriesCounts s (computePlan s) := by
  by_cases none : s.cars = []
  · rw [computePlan_none none]
    exact refl
  · rw [computePlan_planned none]
    have planned : CarriesCounts s (planned s) := quiet (.raised rfl rfl)
    exact planned.trans (countReport _)

end CarriesCounts

/-- An owner answers a request with the laws carried over. -/
theorem serve_carriesCounts (tag : Byte) (r : Request) (s : State) : CarriesCounts s (serve tag r s) := by
  cases r with
  | commission => exact .quiet (.handleCommission _ _)
  | returnToSetup => exact .quiet (.handleReturnToSetup _ _)
  | startRun origin => exact .quiet (.handleStartRun _ _ _)
  | enableTilt => exact .quiet (.handleEnableTilt _ _)
  | resumeTilt => exact .quiet (.handleResumeTilt _ _)
  | reset => exact .handleReset _ _
  | setParameters v => exact .quiet (.handleSetParameters _ _ _)
  | setFormation count r1 r2 r3 records => exact .handleSetFormation _ _ _ _
  | resolveCapture n r2 r3 x => exact .quiet (.handleResolveCapture _ _ _ _)
  | openBatch declared => exact .quiet (.handleOpenBatch _ _ _)
  | addSegments count r1 r2 r3 records => exact .quiet (.handleAddSegments _ _ _ _)
  | closeBatch count => exact .quiet (.handleCloseBatch _ _ _)
  | truncateGeometry x => exact .quiet (.handleTruncate _ _ _)
  | queryCar car => exact .quiet (.handleQueryCar _ _ _)
  | clearCarFault car => exact .quiet (.handleClearCarFault _ _ _)
  | rollCall => exact .handleRollCall _ _
  | nodeTransfer car direction item r3 value => exact .handleNodeTransfer _ _ _ _ _ _
  | readAlerts => exact .handleReadAlerts _ _
  | setReporting period => exact .handleSetReporting _ _ _
  | identify | queryStatus | endRun | disableTilt | getParameters | getFormation | queryPosition | queryGeometry =>
    exact .quiet (.answered rfl rfl)

/-- An event acts with the laws carried over. -/
theorem event_carriesCounts {c : Instr} {f : State → State} (h : eventOf c = some f) (s : State) :
    CarriesCounts s (f s) := by
  cases c <;> simp only [eventOf, Option.some.injEq, reduceCtorEq] at h <;> subst h
  case inhibitSample asserted => exact .quiet (.sampleInhibit _ _)
  case inhibitAsserted => exact .quiet (.inhibitAsserted _)
  case inhibitReleased => exact .quiet (.inhibitReleased _)
  case markerSample isHigh => exact .quiet (.sampleMarker _ _)
  case markerRisingEdge => exact .quiet (.markerRises _)
  case pulseDecode channel levels => exact .quiet (.still rfl rfl)
  case odometrySlot => exact .quiet (.takeSlot _)
  case tachoFailed channel => exact .quiet (.failTacho _ _)
  case plannerComputation => exact .computePlan _
  case telemetryCountdown => exact .hearReport _
  case targetListArrival => exact .quiet (.takeTargets _)
  case lineCycle => exact .startCycle _
  case frameEcho isMatch => exact .hearEcho _ _
  case lineHalt => exact .haltCarrying _
  case stat => exact .hearStat _ _ _ _ _ _
  case tracking car => exact .quiet (.testTracking _ _)
  case replySilence => exact .noReply _
  case nodeLost car => exact .hearNodeLost _ _
  case mrsp => exact .hearMrsp _ _ _ _
  case claimRound outcome => exact .hearRound _ _
  case musterEnd => exact .hearMusterEnd _
  case contentionKey key => exact .hearKey _ _
  case alrt => exact .hearAlrt _ _ _ _

end Sys2Proof.Machine

namespace Sys2Proof.Machine

open Sys2Proof

/-! ## The host link carries the counts over (R36, R171 to R177, R180) -/

namespace CarriesCounts

/-- The host link changes beside its completions. -/
theorem ofLink {s : State} (l : HostLink) (completions : l.completions = s.link.completions)
    (sound : s.link.Sound → l.Sound) (busy : s.link.sending ≠ none → l.sending ≠ none) :
    CarriesCounts s (s.setLink l) where
  deferred d := by
    obtain ⟨transfers, muster, rollCalls, kinds⟩ := d
    constructor <;> simpa only [transfersOutstanding, rollCallsOutstanding, State.setLink_line, State.setLink_link,
      completions]
  line := id
  link := sound
  busy := busy

/-! ### The end of a good frame (R174, R176, R177) -/

theorem handleRequest (tag : Byte) (r : Request) (s : State) : CarriesCounts s (handleRequest tag r s) := by
  unfold Machine.handleRequest
  split
  · exact quiet (.answer s _)
  · split
    · exact quiet (.answer s _)
    · split
      · exact quiet (.answer s _)
      · exact serve_carriesCounts tag r s

theorem handleFrame (f : Frame) (s : State) : CarriesCounts s (handleFrame f s) := by
  unfold Machine.handleFrame
  split
  · exact quiet (.answer s _)
  · exact quiet (.answer s _)
  · exact handleRequest _ _ s

/-- A good frame is dropped, is handled, or waits while the link cannot handle it. -/
theorem receive (f : Frame) {handle : State → State} (s : State) (handled : CarriesCounts s (handle s)) :
    CarriesCounts s (receive f handle s) := by
  unfold Machine.receive
  split
  · exact ofLink _ rfl (fun h => ⟨h.slot, h.fifo, h.bad, h.broken, countUp_le h.refused, h.period, h.countdown, h.due,
      h.asm⟩) id
  · split
    · exact handled
    · next busy =>
      have waits := (isReady_false s).1 (by simpa using busy)
      exact ofLink _ rfl (fun h => ⟨fun _ => waits, h.fifo, h.bad, h.broken, h.refused, h.period, h.countdown, h.due,
        h.asm⟩) id

theorem acceptFrame (f : Frame) (s : State) : CarriesCounts s (acceptFrame f s) := receive f s (handleFrame f s)

theorem submit (tag : Byte) (r : Request) (s : State) : CarriesCounts s (submit tag r s) :=
  receive _ s (handleRequest tag r s)

/-! ### The transmitter (R180) -/

theorem handOver (s : State) : CarriesCounts s (handOver s) := by
  unfold Machine.handOver
  split
  · next g _ =>
    split
    · have taken : CarriesCounts s (s.setLink { s.link with slot := none }) :=
        ofLink _ rfl (fun h => ⟨nofun, h.fifo, h.bad, h.broken, h.refused, h.period, h.countdown, h.due, h.asm⟩) id
      exact taken.trans (handleFrame g _)
    · exact refl
  · exact refl

/-- A reply is sent, and no request waits unless an accepted Reset does. -/
theorem replySent (s : State) (chars : List (BitVec 11)) {slot : Option Frame}
    (waits : slot.isSome = true → s.link.resetWaiting = true) :
    CarriesCounts s (s.setLink { s.link with reply := none, slot := slot, sending := some chars }) :=
  ofLink _ rfl (fun h => ⟨fun some => .inr (waits some), h.fifo, h.bad, h.broken, h.refused, h.period, h.countdown,
    h.due, h.asm⟩) nofun

/-- The reply is sent, and the request that waited for its slot is handled. -/
theorem sendReply (f : Frame) (s : State) :
    CarriesCounts s (Machine.handOver (transmit f (s.setLink { s.link with reply := none }))) := by
  unfold Machine.handOver
  split
  · next g _ =>
    split
    · exact (replySent s (slot := none) (frameChars f) nofun).trans (handleFrame g _)
    · next busy =>
      have waits := (isReady_false _).1 (by simpa using busy)
      exact replySent s (frameChars f) fun _ => waits.resolve_left Bool.false_ne_true
  · next empty => exact replySent s (frameChars f) fun some => by simp [show s.link.slot = none from empty] at some

/-- The oldest completion is sent. -/
theorem sendCompletion {f : Frame} {rest : List Frame} {s : State} (waiting : s.link.completions = f :: rest) :
    CarriesCounts s (transmit f (s.setLink { s.link with completions := rest })) where
  deferred d := by
    have fewer (p : Frame → Bool) : rest.countP p ≤ s.link.completions.countP p := by
      rw [waiting]
      exact (List.sublist_cons_self f rest).countP_le
    refine d.fewer (Nat.add_le_add_left (fewer _) _) d.muster (Nat.add_le_add_left (fewer _) _) fun g member => .inl ?_
    rw [waiting]
    exact List.mem_cons_of_mem f member
  line := id
  link h := h.outgoing _ _ _
  busy := nofun

theorem sendNotice (k : NoticeKind) (s : State) : CarriesCounts s (sendNotice k s) := by
  have sent : CarriesCounts s
      (transmit (noticeFrame s k) (s.setLink { s.link with notices := s.link.notices.set k .clear })) :=
    ofLink _ rfl (fun h => h.outgoing _ _ _) nofun
  unfold Machine.sendNotice
  dsimp only
  split
  · exact sent.trans (quiet (.still rfl rfl))
  · exact sent

theorem choose (s : State) : CarriesCounts s (choose s) := by
  rcases choose_cases s with ⟨f, -, e⟩ | ⟨-, f, rest, waiting, e⟩ | ⟨-, -, k, -, e⟩ | ⟨-, -, -, e⟩ <;> rw [e]
  · exact sendReply f s
  · exact sendCompletion waiting
  · exact sendNotice k s
  · exact refl

theorem chooseIfIdle (s : State) : CarriesCounts s (chooseIfIdle s) := by
  unfold Machine.chooseIfIdle
  split
  · exact choose s
  · exact refl

/-! ### The receiver and the assembler (R171 to R174) -/

theorem discardBad (s : State) : CarriesCounts s (discardBad s) :=
  ofLink _ rfl (fun h => ⟨h.slot, h.fifo, countUp_le h.bad, h.broken, h.refused, h.period, h.countdown, h.due,
    nofun⟩) id

/-- The assembler's state changes. -/
theorem asm (s : State) {a : Assembler} (collects : s.link.Sound → a.Collects) :
    CarriesCounts s (s.setLink { s.link with asm := a }) :=
  ofLink _ rfl (fun h => ⟨h.slot, h.fifo, h.bad, h.broken, h.refused, h.period, h.countdown, h.due, collects h⟩) id

theorem assembleGap (s : State) : CarriesCounts s (assembleGap s) := by
  have broken : CarriesCounts s
      (s.setLink { s.link with asm := .hunt, broken := countUp s.link.broken Config.counterMax }) :=
    ofLink _ rfl (fun h => ⟨h.slot, h.fifo, h.bad, countUp_le h.broken, h.refused, h.period, h.countdown, h.due,
      nofun⟩) id
  unfold Machine.assembleGap
  split
  · exact refl
  · exact broken
  · exact broken

theorem endFrame (buffer : List Byte) (spoiled : Bool) (s : State) : CarriesCounts s (endFrame buffer spoiled s) := by
  unfold Machine.endFrame
  split
  · exact discardBad s
  · split
    · exact (asm s (a := .hunt) fun _ => nofun).trans (acceptFrame _ _)
    · exact discardBad s

end CarriesCounts

namespace Assembler

/-- LENGTH has been taken: that many characters are due, and the two of the CRC (R173, R174). -/
theorem collects_first {n : Byte} (low : 2 ≤ n.toNat) (high : n.toNat ≤ 250) (spoiled : Bool) :
    (Assembler.collect [n] (n.toNat + 2) spoiled).Collects := by
  rintro _ _ _ ⟨⟩
  exact ⟨n, [], rfl, low, high, by omega, by simp only [List.length_singleton]; omega⟩

/-- One more character of the frame has been taken, and it is not the last. -/
theorem Collects.more {buffer : List Byte} {left : Nat} {spoiled : Bool}
    (h : (Assembler.collect buffer left spoiled).Collects) (c : Byte) (more : ¬left ≤ 1) (spoiled' : Bool) :
    (Assembler.collect (buffer ++ [c]) (left - 1) spoiled').Collects := by
  obtain ⟨n, rest, rfl, low, high, -, length⟩ := h buffer left spoiled rfl
  rintro _ _ _ ⟨⟩
  refine ⟨n, rest ++ [c], rfl, low, high, by omega, ?_⟩
  simp only [List.length_append, List.length_singleton] at length ⊢
  omega

end Assembler

theorem length_markNewest (l : List RxChar) : (markNewest l).length = l.length := by
  induction l with
  | nil => rfl
  | cons c rest ih =>
    cases rest with
    | nil => rfl
    | cons d rest => exact congrArg (· + 1) ih

namespace CarriesCounts

theorem assemble (c : RxChar) (s : State) : CarriesCounts s (assemble c s) := by
  unfold Machine.assemble
  split
  · split
    · exact asm s fun _ => nofun
    · exact refl
  · split
    · next length => exact asm s fun _ => Assembler.collects_first length.1 length.2.1 false
    · exact discardBad s
  · next collecting =>
    split
    · exact endFrame _ _ s
    · next more => exact asm s fun h => Assembler.Collects.more (collecting ▸ h.asm) _ more _

/-- The FIFO changes, and the receiver's own marks. -/
theorem fifo (s : State) {q : List RxChar} (overrun gapRunning waitIdle : Bool)
    (room : s.link.fifo.length ≤ Config.fifoCapacity → q.length ≤ Config.fifoCapacity) :
    CarriesCounts s (s.setLink { s.link with
      fifo := q, overrun := overrun, gapRunning := gapRunning, waitIdle := waitIdle }) :=
  ofLink _ rfl (fun h => ⟨h.slot, room h.fifo, h.bad, h.broken, h.refused, h.period, h.countdown, h.due, h.asm⟩) id

theorem takeCharacter (s : State) : CarriesCounts s (takeCharacter s) := by
  unfold Machine.takeCharacter
  split
  · exact refl
  · next c rest queue =>
    have taken : CarriesCounts s (Machine.assemble c (s.setLink { s.link with fifo := rest })) :=
      (fifo s _ _ _ fun room => by rw [queue] at room; exact (Nat.le_succ _).trans room).trans (assemble c _)
    dsimp only
    split
    · exact taken.trans (assembleGap _)
    · exact taken

theorem takeLast (s : State) : CarriesCounts s (takeLast s) := by
  unfold Machine.takeLast
  split
  · exact takeCharacter s
  · exact refl

theorem hearGap (s : State) : CarriesCounts s (hearGap s) := by
  have marked : CarriesCounts s (s.setLink { s.link with gapRunning := false, fifo := markNewest s.link.fifo }) :=
    fifo s _ _ _ fun room => (length_markNewest _).trans_le room
  unfold Machine.hearGap Machine.expireGap
  split
  · dsimp only
    split
    · exact marked.trans (assembleGap _)
    · exact marked
  · exact refl

theorem hearCharacter (data : Byte) (parity stop : Bool) (s : State) :
    CarriesCounts s (hearCharacter data parity stop s) := by
  unfold Machine.hearCharacter receiveCharacter storeCharacter
  split
  · exact refl
  · split
    · next room => exact fifo s _ _ _ fun _ => List.length_append.trans_le room
    · exact fifo s _ _ _ id

theorem hearIdle (s : State) : CarriesCounts s (hearIdle s) := fifo s _ _ _ id

end CarriesCounts

/-! ## The transmitter leaves nothing waiting (R180; log entry 3) -/

/-- A transmitter that sends meets the law of the idle one. -/
theorem settled_of_busy {s : State} (busy : s.link.sending ≠ none) : Settled s := fun idle => absurd idle busy

/-- Once the transmitter has chosen, it sends, or nothing waits. -/
theorem settled_choose (s : State) : Settled (choose s) := by
  rcases choose_cases s with ⟨f, -, e⟩ | ⟨-, f, rest, -, e⟩ | ⟨-, -, k, -, e⟩ | ⟨reply, completions, notice, e⟩ <;>
    rw [e]
  · exact settled_of_busy ((CarriesCounts.handOver _).busy nofun)
  · exact settled_of_busy nofun
  · exact settled_of_busy (by rw [sendNotice_eq]; nofun)
  · exact fun _ => ⟨reply, completions, fun k member => by simpa using List.find?_eq_none.1 notice k member⟩

theorem settled_chooseIfIdle (s : State) : Settled (chooseIfIdle s) := by
  unfold chooseIfIdle
  split
  · exact settled_choose s
  · next busy => exact settled_of_busy busy

/-! ## Every step (R148, R165, R180) -/

/-- The laws of the deferred work, of the line's counts and of the link's counts are kept from s to t. -/
structure KeepsCounts (s t : State) : Prop where
  deferred : DeferredInOrder s → DeferredInOrder t
  line : s.line.Sound → t.line.Sound
  link : s.link.Sound → t.link.Sound

theorem CarriesCounts.keeps {s t : State} (h : CarriesCounts s t) : KeepsCounts s t := ⟨h.deferred, h.line, h.link⟩

namespace KeepsCounts

theorem refl {s : State} : KeepsCounts s s := CarriesCounts.refl.keeps

theorem trans {s t u : State} (h : KeepsCounts s t) (g : KeepsCounts t u) : KeepsCounts s u :=
  ⟨g.deferred ∘ h.deferred, g.line ∘ h.line, g.link ∘ h.link⟩

/-- The queue of commands is no part of the laws. -/
theorem queue (s : State) (q : List Instr) : KeepsCounts s { s with pending := q } :=
  ⟨fun h => ⟨h.transfers, h.muster, h.rollCalls, h.kinds⟩, id, id⟩

/-- After a reset, or held in reset, nothing is in progress, nothing waits and every count is 0 (R35, R185). -/
theorem afterReset {s t : State} (line : t.line = CarLine.afterReset) (notices : Notices)
    (link : t.link = { HostLink.afterReset with notices := notices }) : KeepsCounts s t where
  deferred _ := by
    constructor <;> simp only [transfersOutstanding, rollCallsOutstanding, line, link] <;> decide
  line _ := by
    rw [line]
    exact ⟨by decide, by decide, by decide, by decide, nofun⟩
  link _ := by
    rw [link]
    exact HostLink.Sound.afterReset.outgoing _ _ _

theorem act {f : State → State} (carries : ∀ u, CarriesCounts u (f u)) {s t : State} (h : act f s = .next t) :
    KeepsCounts s t := by
  obtain rfl := Host.Outcome.next.inj h
  split
  · exact refl
  · exact (((CarriesCounts.chooseIfIdle s).trans (carries _)).trans (.chooseIfIdle _)).keeps

/-- The end of a frame leaves the transmitter idle, and it chooses; an accepted Reset takes effect instead (R36). -/
theorem frameSent (pins : Pins) (s : State) : KeepsCounts s (frameSent pins s) := by
  unfold Machine.frameSent
  split
  · exact afterReset rfl _ rfl
  · have idle : KeepsCounts s (s.setLink { s.link with sending := none }) :=
      ⟨fun h => ⟨h.transfers, h.muster, h.rollCalls, h.kinds⟩, id, fun h => h.outgoing _ _ _⟩
    exact idle.trans (CarriesCounts.choose _).keeps

end KeepsCounts

/-- Every command but the two of RESET_N and FRAME_SENT acts by an operation that carries the counts over. -/
theorem exec_acts_carrying {c : Instr} (pin : ∀ q, c ≠ .resetN q) (low : c ≠ .resetNAsserted)
    (sent : ∀ q, c ≠ .frameSent q) : ∃ f, (∀ s, exec c s = act f s) ∧ ∀ s, CarriesCounts s (f s) := by
  cases request : commandRequest c with
  | some x => exact ⟨_, fun s => exec_submit s request, fun s => .submit _ _ s⟩
  | none =>
    cases event : eventOf c with
    | some f => exact ⟨f, fun s => exec_event s event, event_carriesCounts event⟩
    | none =>
      cases c <;> simp only [commandRequest, eventOf, reduceCtorEq] at request event
      case unknownKind => exact ⟨_, fun _ => rfl, .acceptFrame _⟩
      case resetN pins => exact absurd rfl (pin pins)
      case resetNAsserted => exact absurd rfl low
      case frameSent pins => exact absurd rfl (sent pins)
      case characterReceived data parity stop => exact ⟨_, fun _ => rfl, .hearCharacter data parity stop⟩
      case rxdIdleLevel => exact ⟨_, fun _ => rfl, .hearIdle⟩
      case characterTaken => exact ⟨_, fun _ => rfl, .takeCharacter⟩
      case frameEnd => exact ⟨_, fun _ => rfl, .takeLast⟩
      case gap => exact ⟨_, fun _ => rfl, .hearGap⟩

/-- What a command leaves waiting: nothing at an idle transmitter, or the notice of a reset that has just ended. -/
def SettledOrReset (s : State) : Prop := Settled s ∨ ∃ pending pins, s = State.afterReset pending pins

theorem act_settledOrReset {f : State → State} {s t : State} (settled : SettledOrReset s) (h : act f s = .next t) :
    SettledOrReset t := by
  obtain rfl := Host.Outcome.next.inj h
  split
  · exact settled
  · exact .inl (settled_chooseIfIdle _)

/-- What the two commands of RESET_N and FRAME_SENT keep, and what every other command keeps. -/
theorem exec_keeps {c : Instr} {s t : State} (h : exec c s = .next t) :
    KeepsCounts s t ∧ (SettledOrReset s → SettledOrReset t) := by
  by_cases pin : ∃ q, c = .resetN q
  · obtain ⟨q, rfl⟩ := pin
    obtain rfl := Host.Outcome.next.inj h
    exact ⟨.afterReset rfl _ rfl, fun _ => .inr ⟨_, _, rfl⟩⟩
  by_cases low : c = .resetNAsserted
  · subst low
    obtain rfl := Host.Outcome.next.inj h
    exact ⟨.afterReset rfl .clear rfl, fun _ => .inl fun _ => ⟨rfl, rfl, fun k _ => by cases k <;> rfl⟩⟩
  by_cases sent : ∃ q, c = .frameSent q
  · obtain ⟨q, rfl⟩ := sent
    obtain rfl := Host.Outcome.next.inj h
    split
    · exact ⟨.refl, id⟩
    · refine ⟨.frameSent q s, fun _ => ?_⟩
      unfold frameSent
      split
      · exact .inr ⟨_, _, rfl⟩
      · exact .inl (settled_choose _)
  · obtain ⟨f, acts, carries⟩ := exec_acts_carrying (fun q e => pin ⟨q, e⟩) low (fun q e => sent ⟨q, e⟩)
    rw [acts] at h
    exact ⟨.act carries h, fun settled => act_settledOrReset settled h⟩

/-- Every step keeps the counts, and leaves nothing waiting at an idle transmitter but the notice of a reset. -/
theorem step_keepsCounts {s t : State} (h : step s = .next t) :
    KeepsCounts s t ∧ (SettledOrReset s → SettledOrReset t) := by
  unfold step at h
  split at h
  · obtain rfl := Host.Outcome.next.inj h
    exact ⟨.refl, id⟩
  · next c rest _ =>
    obtain ⟨counts, settled⟩ := exec_keeps h
    refine ⟨(KeepsCounts.queue s rest).trans counts, fun before => settled ?_⟩
    rcases before with idle | ⟨q, pins, rfl⟩
    · exact .inl idle
    · exact .inr ⟨rest, pins, rfl⟩

/-- Settles O17: what is outstanding moves from the queue and the muster to the completions, and is never more. -/
theorem stepsKeepDeferredWorkBounded : Obligations.StepsKeepDeferredWorkBounded :=
  fun s t law h => (deferredLaw_iff t).2 ((step_keepsCounts h).1.deferred ((deferredLaw_iff s).1 law))

/-- Settles O18: the line and the link stay within their capacities, and the transmitter chooses last. -/
theorem stepsKeepQueuesAndCountersBounded : Obligations.StepsKeepQueuesAndCountersBounded := by
  intro s t line link h
  obtain ⟨settled, sound⟩ := (linkLaw_iff s).1 link
  obtain ⟨counts, waiting⟩ := step_keepsCounts h
  exact ⟨(lineLaw_iff t).2 (counts.line ((lineLaw_iff s).1 line)),
    (linkLaw_iff t).2 ⟨waiting settled, counts.link sound⟩⟩

end Sys2Proof.Machine

namespace Sys2Proof.Machine

open Sys2Proof

/-! ## The rounds of a muster (R147, R149, R150) -/

theorem rollCallFrames_none {s : State} (r : ResultCode) (d : Detail) (h : s.line.muster = none) :
    rollCallFrames r d s = [] := by
  rw [rollCallFrames, h]
  rfl

theorem rollCallFrames_some {s : State} {m : Muster} (r : ResultCode) (d : Detail) (h : s.line.muster = some m) :
    rollCallFrames r d s = [replyFrame 0x30#8 m.tag r d 0 (rollCallBody s)] := by
  rw [rollCallFrames, h]
  rfl

section
variable {s : State} {m : Muster} (muster : s.line.muster = some m)
include muster

/-- The next round is opened: CLAIM is sent (R147). -/
theorem openRound_eq :
    openRound s =
      { s with line := { s.line with exch := .echo .claim, muster := some { m with round := m.round + 1 } } } := by
  simp [openRound, muster, State.setLine]

/-- Before the 24th the next round follows (R150). -/
theorem endRound_next (before : m.round < 24) (drew : Bool) : endRound drew s = openRound s := by
  have opened : roundsOpened s = m.round := by simp [roundsOpened, muster]
  rw [endRound, opened]
  exact if_neg (Nat.not_le.2 before)

/-- The 24th round ends the muster (R150). -/
theorem endRound_last (last : 24 ≤ m.round) (drew : Bool) : endRound drew s = endMuster drew s := by
  have opened : roundsOpened s = m.round := by simp [roundsOpened, muster]
  rw [endRound, opened]
  exact if_pos last

end

/-! ### The answer to a claim (R149) -/

/-- A serial that one entry alone holds is found there. -/
theorem Foreign.addressOf_some {f : Foreign} {x : Serial} {a : Nat} (h : f.get a = some x)
    (once : ∀ b, f.get b = some x → b = a) : f.addressOf x = some a := by
  cases found : f.addressOf x with
  | none => exact absurd h (Foreign.addressOf_none.1 found a)
  | some b => rw [once b (Foreign.get_of_addressOf found)]

section
variable {s : State} {x : Serial}

theorem answerClaim_car {k : Nat} (h : carOfSerial s x = some k) :
    answerClaim x s = sendFrame (.name x (k + 1)) s := by rw [answerClaim, h]

theorem answerClaim_held {a : Nat} (stranger : carOfSerial s x = none) (h : s.line.foreign.addressOf x = some a) :
    answerClaim x s = sendFrame (.name x a) s := by rw [answerClaim, stranger, h]

theorem answerClaim_free {a : Nat} (stranger : carOfSerial s x = none) (new : s.line.foreign.addressOf x = none)
    (h : s.line.foreign.highestFree = some a) : answerClaim x s = sendFrame (.name x a) s := by
  rw [answerClaim, stranger, new, h]

theorem answerClaim_full (stranger : carOfSerial s x = none) (new : s.line.foreign.addressOf x = none)
    (h : s.line.foreign.highestFree = none) : answerClaim x s = sendFrame (.park x) s := by
  rw [answerClaim, stranger, new, h]

end

section
variable {s : State} (running : Running s) (round : s.line.exch = .round)
include running round

theorem exec_claimRound (outcome : ClaimOutcome) :
    exec (.claimRound outcome) s = .next (chooseIfIdle (readRound outcome s)) := by
  rw [exec_event (c := .claimRound outcome) s rfl, act_running _ running, hearRound, if_pos round]

theorem exec_claimRound_quiet {outcome : ClaimOutcome} {t : State} (h : readRound outcome s = t)
    (link : t.link = s.link) : exec (.claimRound outcome) s = .next t := by
  subst h
  have read : hearRound outcome s = readRound outcome s := if_pos round
  rw [exec_quiet_event (c := .claimRound outcome) running rfl (by rwa [read]), read]

end

/-! ### NAME and PARK delivered in a muster (R149, R150) -/

/-- A NAME or a PARK of the muster in s has taken its effect in u: the tables, the channels and CENTRE_OK. -/
structure TakenInRound (s u : State) : Prop where
  line : u.line = { s.line with
    echoCount := 0, nodes := u.line.nodes, foreign := u.line.foreign, parked := u.line.parked }
  ctl : u.ctl = { s.ctl with centreOk := u.ctl.centreOk }
  odo : u.odo = s.odo
  cars : u.cars = s.cars
  link : u.link = s.link

/-- The round in which it was taken ends, and the muster goes on or is over. -/
theorem TakenInRound.endRound {s u : State} (h : TakenInRound s u) (mustering : s.line.state = .mustering) {m : Muster}
    (muster : s.line.muster = some m) {t : State} (ends : t = endRound true u) :
    (t.line.echoCount = 0 ∧ t.line.alerts = s.line.alerts ∧ t.odo = s.odo ∧
      t.ctl = { s.ctl with centreOk := t.ctl.centreOk } ∧
      (m.round < 24 → t.line.exch = .echo .claim ∧ t.line.state = .mustering ∧
        t.line.muster = some { m with round := m.round + 1 } ∧ t.link = s.link) ∧
      (24 ≤ m.round → t.line.exch = .quiet ∧ t.line.state = .cycling ∧ t.line.muster = none ∧
        t.link.notices = s.link.notices.raise .line 8#16 ∧
        t.link.completions = s.link.completions ++
          [{ kind := 0xB0#8, tag := m.tag,
             body := [0, 0, 0, 0, u8 (boundCount t), u8 (missingCount t), u8 t.line.foreign.count,
                      u8 t.line.parked.length] ++ t.line.parked.flatMap bytes4 }])) ∧
      t.line.nodes = u.line.nodes ∧ t.chans = u.chans ∧ t.line.foreign = u.line.foreign ∧
      t.line.parked = u.line.parked := by
  have same : u.line.muster = some m := by rw [h.line]; exact muster
  have state : u.line.state = .mustering := by rw [h.line]; exact mustering
  have count : u.line.echoCount = 0 := by rw [h.line]
  have alerts : u.line.alerts = s.line.alerts := by rw [h.line]
  rcases Nat.lt_or_ge m.round 24 with before | last
  · rw [endRound_next same before, openRound_eq same] at ends
    subst ends
    exact ⟨⟨count, alerts, h.odo, h.ctl, fun _ => ⟨rfl, state, rfl, h.link⟩,
      fun last => absurd before (Nat.not_lt.2 last)⟩, rfl, rfl, rfl, rfl⟩
  · rw [endRound_last same last, endMuster_eq, rollCallFrames_some _ _ same, h.link] at ends
    have body : rollCallBody t = rollCallBody u := by
      rw [ends]
      exact rollCallBody_congr rfl rfl rfl rfl
    have completions : t.link.completions =
        s.link.completions ++ [replyFrame 0x30#8 m.tag .ok .none 0 (rollCallBody t)] := by rw [body, ends]
    subst ends
    exact ⟨⟨count, alerts, h.odo, by rw [h.ctl], fun before => absurd last (Nat.not_le.2 before),
      fun _ => ⟨rfl, rfl, rfl, rfl, completions⟩⟩, rfl, rfl, rfl, rfl⟩

section
variable (s : State)

theorem takenInRound_named (x : Serial) (a : Nat) :
    TakenInRound s (nodeNamed x a (s.setLine { s.line with echoCount := 0 })) := by
  unfold nodeNamed
  split
  · split
    · exact ⟨rfl, rfl, rfl, rfl, rfl⟩
    · exact ⟨rfl, rfl, rfl, rfl, rfl⟩
  · exact ⟨rfl, rfl, rfl, rfl, rfl⟩

theorem takenInRound_parked (x : Serial) :
    TakenInRound s (parkSerial x (s.setLine { s.line with echoCount := 0 })) := by
  unfold parkSerial
  split <;> exact ⟨rfl, rfl, rfl, rfl, rfl⟩

end

section
variable {s : State} (mustering : s.line.state = .mustering)
include mustering

theorem echoMatched_namedInRound {x : Serial} {a : Nat} (h : s.line.exch = .echo (.name x a)) :
    echoMatched s = endRound true (nodeNamed x a (s.setLine { s.line with echoCount := 0 })) := by
  rw [echoMatched_sent h]
  exact if_pos mustering

theorem echoMatched_parkedInRound {x : Serial} (h : s.line.exch = .echo (.park x)) :
    echoMatched s = endRound true (parkSerial x (s.setLine { s.line with echoCount := 0 })) := by
  rw [echoMatched_sent h]
  exact if_pos mustering

end

/-! A delivered NAME of a car leaves a binding of this muster and makes any other (R149). -/

section
variable {s : State} {x : Serial} {k : Nat} (car : k < 12)
include car

theorem nodeNamed_bound (bound : isBound s k = true) : nodeNamed x (k + 1) s = s := by
  rw [nodeNamed, if_pos (show k + 1 ≤ 12 from car), Nat.add_sub_cancel, if_pos bound]

theorem nodeNamed_unbound (unbound : isBound s k = false) : nodeNamed x (k + 1) s = bindCar k x s := by
  rw [nodeNamed, if_pos (show k + 1 ≤ 12 from car), Nat.add_sub_cancel, unbound]
  rfl

end

theorem nodeNamed_car_tables {k : Nat} (x : Serial) (car : k < 12) (s : State) :
    (nodeNamed x (k + 1) s).line.foreign = s.line.foreign ∧ (nodeNamed x (k + 1) s).line.parked = s.line.parked := by
  cases bound : isBound s k with
  | true => rw [nodeNamed_bound car bound]; exact ⟨rfl, rfl⟩
  | false => rw [nodeNamed_unbound car bound]; exact ⟨rfl, rfl⟩

/-- A delivered PARK leaves the tables; the serial is parked while the list has room (R149). -/
theorem parkSerial_frame (x : Serial) (s : State) :
    parkSerial x s = s.setLine { s.line with
      parked := if s.line.parked.length < 24 then s.line.parked ++ [x] else s.line.parked } := by
  unfold parkSerial
  split
  · next room => rw [if_pos (show s.line.parked.length < 24 from room)]
  · next full => rw [if_neg (show ¬s.line.parked.length < 24 from full)]; rfl

/-- Settles O55: the answers to a claim, NAME and PARK delivered, and the three ends of a muster. -/
theorem musterRoundsNameAndEnd : Obligations.MusterRoundsNameAndEnd := by
  intro s running mustering m muster
  refine ⟨fun round => ⟨fun x k own once => ?_, fun x none => ⟨fun a held once => ?_, fun new => ⟨
      fun a low high free above => ?_, fun full => ?_⟩⟩, fun before => ?_⟩,
    fun f sent kind => ⟨_, exec_frameEcho running, ?_⟩, bound_add_missing s, fun c ends => ?_⟩
  · exact exec_claimRound_quiet running round (answerClaim_car (carOfSerial_some own once)) rfl
  · exact exec_claimRound_quiet running round
      (answerClaim_held (carOfSerial_none.2 none) (Foreign.addressOf_some held once)) rfl
  · exact exec_claimRound_quiet running round (answerClaim_free (carOfSerial_none.2 none) (Foreign.addressOf_none.2 new)
      (Foreign.highestFree_some.2 ⟨low, high, free, above⟩)) rfl
  · exact exec_claimRound_quiet running round (answerClaim_full (carOfSerial_none.2 none) (Foreign.addressOf_none.2 new)
      (Foreign.highestFree_none.2 ⟨full 13 (by omega) (by omega), full 14 (by omega) (by omega),
        full 15 (by omega) (by omega)⟩)) rfl
  · exact exec_claimRound_quiet running round ((endRound_next muster before true).trans (openRound_eq muster)) rfl
  · rcases kind with ⟨x, a, rfl⟩ | ⟨x, rfl⟩
    · obtain ⟨⟨count, alerts, odo, ctl, next, last⟩, nodes, chans, foreign, parked⟩ :=
        (takenInRound_named s x a).endRound mustering muster (echoMatched_namedInRound mustering sent)
      refine ⟨count, alerts, odo, ctl, next, last, fun y k name inside => ?_, fun y b name low high => ?_, nofun⟩
      · obtain ⟨rfl, rfl⟩ : x = y ∧ a = k + 1 := by simpa using name
        rw [foreign, parked, nodes, chans]
        obtain ⟨foreign, parked⟩ := nodeNamed_car_tables x inside (s.setLine { s.line with echoCount := 0 })
        refine ⟨foreign, parked, fun bound => ?_, fun c unbound place clear => ?_⟩
        · rw [nodeNamed_bound (s := s.setLine { s.line with echoCount := 0 }) inside bound]
          exact ⟨rfl, rfl⟩
        · rw [nodeNamed_unbound (s := s.setLine { s.line with echoCount := 0 }) inside unbound]
          refine ⟨rfl, (modify_place place _).trans ?_⟩
          rw [Channel.toBound, if_pos clear]
      · obtain ⟨rfl, rfl⟩ : x = y ∧ a = b := by simpa using name
        have put := fun b => Foreign.get_put s.line.foreign a b (some x) (by omega)
        rw [nodes, chans, parked, foreign, nodeNamed, if_neg (show ¬a ≤ 12 by omega)]
        exact ⟨rfl, rfl, rfl, (put a).trans (if_pos rfl), fun b other => (put b).trans (if_neg other)⟩
    · obtain ⟨⟨count, alerts, odo, ctl, next, last⟩, nodes, chans, foreign, parked⟩ :=
        (takenInRound_parked s x).endRound mustering muster (echoMatched_parkedInRound mustering sent)
      refine ⟨count, alerts, odo, ctl, next, last, nofun, nofun, fun y park => ?_⟩
      obtain rfl : x = y := by simpa using park
      rw [nodes, chans, foreign, parked, parkSerial_frame]
      exact ⟨rfl, rfl, rfl, rfl⟩
  · have ended (overfull : Bool) := rollCallFrames_some .ok .none muster ▸ endMuster_eq overfull s
    rcases ends with ⟨rfl, round⟩ | rfl | ⟨rfl, round, last⟩
    · exact ⟨_, exec_claimRound running round _, ended false⟩
    · refine ⟨_, (exec_event (c := .musterEnd) s rfl).trans (act_running _ running), ?_⟩
      rw [hearMusterEnd, if_pos mustering]
      exact ended false
    · have ends : readRound .garbled s = endMuster true s := endRound_last muster last true
      refine ⟨_, exec_claimRound running round _, ?_⟩
      rw [ends]
      exact ended true

end Sys2Proof.Machine

namespace Sys2Proof.Machine

open Sys2Proof

/-! ## The cars of a line that halts (R134, R135, R162) -/

theorem Channel.toReturning_of_ne {c : Channel} (h : c.state ≠ .following) : c.toReturning = c := if_neg h

/-- A channel stands, or has become RETURNING if it was FOLLOWING (R127). -/
def MayReturn (c d : Channel) : Prop := d = c ∨ d = c.toReturning

namespace MayReturn

theorem of_ne {c d : Channel} (h : MayReturn c d) (still : c.state ≠ .following) : d = c :=
  h.elim id fun e => e.trans (Channel.toReturning_of_ne still)

theorem trans {c d e : Channel} (h : MayReturn c d) (g : MayReturn d e) : MayReturn c e := by
  have twice : c.toReturning.toReturning = c.toReturning := by
    unfold Channel.toReturning
    split <;> simp [*]
  rcases h with rfl | rfl
  · exact g
  · exact .inr (g.elim id fun e => e.trans twice)

/-- A channel that only returned is FOLLOWING as before, or was FOLLOWING and is RETURNING. -/
theorem cases {c d : Channel} (h : MayReturn c d) :
    d = c ∨ c.state = .following ∧ d = { c with state := .returning } := by
  rcases h with rfl | rfl
  · exact .inl rfl
  · by_cases following : c.state = .following
    · exact .inr ⟨following, if_pos following⟩
    · exact .inl (Channel.toReturning_of_ne following)

theorem isNews {c d : Channel} (h : MayReturn c d) (kind : FaultKind) : isNews kind d = isNews kind c := by
  rcases h.cases with rfl | ⟨following, rfl⟩
  · rfl
  · rw [Machine.isNews, Machine.isNews, following]
    rfl

/-- A fault makes the same of a channel whether it returns before or not. -/
theorem gains {c d e : Channel} {kind : FaultKind} (h : MayReturn c d) (g : GainsFault kind d e) :
    GainsFault kind c e := by
  rcases h.cases with rfl | ⟨following, rfl⟩
  · exact g
  · have failed := g.2.1 nofun nofun
    refine ⟨fun no => ?_, fun _ _ => failed, fun no => ?_, fun no => ?_⟩ <;> simp [following] at no

end MayReturn

/-- A car that takes a fault is not FOLLOWING afterwards. -/
theorem GainsFault.not_following {c d : Channel} {kind : FaultKind} (h : GainsFault kind c d) :
    d.state ≠ .following := by
  obtain ⟨unfitted, fresh, gathers, known⟩ := h
  by_cases fitted : c.state = .notFitted
  · rw [unfitted fitted, fitted]
    nofun
  · by_cases failed : c.state = .failed
    · cases has : c.faults.has kind with
      | true => rw [known failed has, failed]; nofun
      | false => rw [gathers failed has, failed]; nofun
    · rw [fresh fitted failed]
      nofun

/-- What the fault LINE_HALTED of the cars ks, each with a bound node, makes of the channels and of the CARS notice. -/
structure CarsHalted (ks : List Nat) (s t : State) : Prop where
  nodes : t.line.nodes = s.line.nodes
  raised : s.link.notices.cars.pending = true → t.link.notices.cars.pending = true
  own : ∀ k ∈ ks, ∀ c, s.chans[k]? = some c → isBound s k = true →
    (isNews .lineHalted c = true → t.link.notices.cars.pending = true) ∧
    ∃ d, t.chans[k]? = some d ∧ GainsFault .lineHalted c d
  others : ∀ k c, s.chans[k]? = some c → k ∉ ks ∨ isBound s k = false →
    ∃ d, t.chans[k]? = some d ∧ MayReturn c d

namespace CarsHalted

theorem none {s : State} : CarsHalted [] s s :=
  ⟨rfl, id, fun _ no => (nomatch no), fun _ c place _ => ⟨c, place, .inl rfl⟩⟩

theorem unbound {s : State} {k : Nat} (h : isBound s k = false) : CarsHalted [k] s s := by
  refine ⟨rfl, id, fun j member c place bound => ?_, fun _ c place _ => ⟨c, place, .inl rfl⟩⟩
  rw [List.mem_singleton.1 member, h] at bound
  cases bound

theorem one (s : State) (k : Nat) : CarsHalted [k] s (haltCar s k) := by
  cases bound : isBound s k with
  | false => rw [haltCar, bound]; exact unbound bound
  | true =>
    rw [haltCar, if_pos bound]
    cases place : s.chans[k]? with
    | none =>
      have same : addFault k .lineHalted s = s := by rw [addFault, place]
      rw [same]
      refine ⟨rfl, id, fun j member c here => ?_, fun _ c here _ => ⟨c, here, .inl rfl⟩⟩
      rw [List.mem_singleton.1 member, place] at here
      cases here
    | some c =>
      obtain ⟨gains, notice, -, rest⟩ := addFault_adds .lineHalted place
      refine ⟨by rw [addFault_frame], fun pending => ?_, fun j member b here _ => ?_, fun j b here other => ?_⟩
      · rw [notice]
        split
        · rfl
        · exact pending
      · obtain rfl := List.mem_singleton.1 member
        obtain rfl : c = b := Option.some.inj (place.symm.trans here)
        exact ⟨fun news => by rw [notice, if_pos news], gains⟩
      · have apart : j ≠ k := by
          rintro rfl
          rcases other with out | free
          · exact out List.mem_cons_self
          · exact absurd bound (by simp [free])
        refine ⟨_, rest j b apart here, ?_⟩
        split
        · next returns => exact .inr (if_pos returns.2.2.2).symm
        · exact .inl rfl

/-- The cars of one list after those of another, no car in both. -/
theorem append {ks ls : List Nat} {s t u : State} (h : CarsHalted ks s t) (g : CarsHalted ls t u)
    (apart : ∀ k ∈ ks, k ∉ ls) : CarsHalted (ks ++ ls) s u := by
  have bound (k : Nat) : isBound t k = isBound s k := by rw [isBound_congr h.nodes]
  refine ⟨g.nodes.trans h.nodes, g.raised ∘ h.raised, fun k member c place held => ?_, fun k c place out => ?_⟩
  · by_cases first : k ∈ ks
    · obtain ⟨news, d, there, gains⟩ := h.own k first c place held
      obtain ⟨e, last, may⟩ := g.others k d there (.inl (apart k first))
      rw [may.of_ne gains.not_following] at last
      exact ⟨g.raised ∘ news, d, last, gains⟩
    · obtain ⟨d, there, may⟩ := h.others k c place (.inl first)
      obtain ⟨news, e, last, gains⟩ :=
        g.own k ((List.mem_append.1 member).resolve_left first) d there (by rwa [bound])
      exact ⟨fun n => news (by rwa [may.isNews]), e, last, may.gains gains⟩
  · rw [List.mem_append, not_or] at out
    obtain ⟨d, there, may⟩ := h.others k c place (out.imp_left And.left)
    obtain ⟨e, last, may'⟩ := g.others k d there (by rw [bound]; exact out.imp_left And.right)
    exact ⟨e, last, may.trans may'⟩

theorem fold {ks : List Nat} (once : ks.Nodup) (s : State) : CarsHalted ks s (ks.foldl haltCar s) := by
  induction ks generalizing s with
  | nil => exact none
  | cons k ks ih =>
    obtain ⟨out, once⟩ := List.nodup_cons.1 once
    exact (one s k).append (ih once _) fun j member => by rwa [List.mem_singleton.1 member]

end CarsHalted

/-- The cars of the formation at a halt (R162, step 3). -/
theorem haltedCars_halted (s : State) : CarsHalted (carIndexes s) s (haltedCars s) := by
  obtain ⟨nodes, raised, own, others⟩ := CarsHalted.fold (ks := carIndexes s) List.nodup_range
    (s.setLine { s.line with state := .halted, echoCount := 0, exch := .quiet }).reevaluate
  exact ⟨nodes, raised, own, others⟩

end Sys2Proof.Machine

namespace Sys2Proof.Machine

open Sys2Proof

/-! ## A mismatch below the third in a row (R146) -/

/-- Between two states the line's state, exchange, queue and muster change, CENTRE_OK, the completions and the notices,
and nothing else. -/
def OnlyGoesOn (s t : State) : Prop :=
  ∃ level state exch maint muster completions notices,
    t = { s with
          ctl := { s.ctl with centreOk := level }
          line := { s.line with state := state, exch := exch, maint := maint, muster := muster }
          link := { s.link with completions := completions, notices := notices } }

namespace OnlyGoesOn

/-- The exchange changes alone. -/
theorem exch (s : State) (e : Exchange) : OnlyGoesOn s (setExch e s) := ⟨_, _, _, _, _, _, _, rfl⟩

theorem askAfter (a : Nat) (s : State) : OnlyGoesOn s (askAfter a s) := by
  rw [askAfter_frame]
  exact ⟨_, _, _, _, _, _, _, rfl⟩

theorem openRound (s : State) : OnlyGoesOn s (openRound s) := ⟨_, _, _, _, _, _, _, rfl⟩

theorem endRound (drew : Bool) (s : State) : OnlyGoesOn s (endRound drew s) := by
  unfold Machine.endRound
  split
  · rw [endMuster_eq]
    exact ⟨_, _, _, _, _, _, _, rfl⟩
  · exact openRound s

/-- A frame that was not delivered has no effect of its own. -/
theorem undelivered (f : LineFrame) (s : State) : OnlyGoesOn s (undelivered f s) := by
  unfold Machine.undelivered
  split
  · exact openRound s
  · exact endRound _ s
  · split
    · exact endRound _ s
    · exact exch s _
  · split
    · exact endRound _ s
    · exact exch s _
  · exact askAfter _ s
  · exact askAfter _ s
  all_goals exact exch s _

end OnlyGoesOn

/-- The round of a frame that was not delivered ends: the next one follows the first 23, and the 24th ends the
muster. -/
theorem endRound_ends {s t : State} {m : Muster} (muster : s.line.muster = some m) {drew : Bool}
    (ends : t = endRound drew s) :
    (m.round < 24 →
      t.line.exch = .echo .claim ∧ t.line.muster = some { m with round := m.round + 1 } ∧ t.link = s.link) ∧
    (24 ≤ m.round → t.line.state = .cycling ∧ t.line.exch = .quiet ∧ t.line.muster = none ∧
      t.link.notices = (if drew then s.link.notices.raise .line 8#16 else s.link.notices) ∧
      t.link.completions = s.link.completions ++ [replyFrame 0x30#8 m.tag .ok .none 0 (rollCallBody s)]) := by
  refine ⟨fun before => ?_, fun last => ?_⟩
  · rw [ends, endRound_next muster before, openRound_eq muster]
    exact ⟨rfl, rfl, rfl⟩
  · rw [ends, endRound_last muster last, endMuster_eq, rollCallFrames_some _ _ muster]
    exact ⟨rfl, rfl, rfl, rfl, rfl⟩

/-! ### The compared echo of each kind of frame -/

section
variable {s : State} (few : s.line.echoCount < 2)
include few

theorem echoMismatched_sent {f : LineFrame} (sent : s.line.exch = .echo f) :
    echoMismatched s = undelivered f (countMismatch s) := by
  rw [echoMismatched, sent]
  exact if_neg (show ¬3 ≤ s.line.echoCount + 1 by omega)

theorem echoMismatched_take {a : Nat} {x : Option (AlertKind × Half)} (sent : s.line.exch = .takeEcho a x) :
    echoMismatched s = endCycle (countMismatch s) := by
  rw [echoMismatched, sent]
  exact if_neg (show ¬3 ≤ s.line.echoCount + 1 by omega)

theorem echoMismatched_cut (cut : s.line.exch = .cut) : echoMismatched s = resumeCut (countMismatch s) := by
  rw [echoMismatched, cut]
  exact if_neg (show ¬3 ≤ s.line.echoCount + 1 by omega)

end

/-- The third mismatch in a row halts the line, whichever frame it was (R146). -/
theorem echoMismatched_third {s : State} (third : s.line.echoCount = 2)
    (sent : (∃ f, s.line.exch = .echo f) ∨ s.line.exch = .cut ∨ ∃ a x, s.line.exch = .takeEcho a x) :
    echoMismatched s = haltLine (countMismatch s) := by
  have counted : 3 ≤ (countMismatch s).line.echoCount := Nat.succ_le_succ third.ge
  rcases sent with ⟨f, sent⟩ | sent | ⟨a, x, sent⟩ <;> rw [echoMismatched, sent] <;> exact if_pos counted

theorem exec_mismatch {s : State} (running : Running s) :
    exec (.frameEcho false) s = .next (chooseIfIdle (echoMismatched s)) :=
  (exec_event (c := .frameEcho false) s rfl).trans (act_running _ running)

/-- A mismatch that leaves the link alone. -/
theorem exec_mismatch_quiet {s t : State} (running : Running s) (h : echoMismatched s = t) (link : t.link = s.link) :
    exec (.frameEcho false) s = .next t := by
  subst h
  exact exec_quiet_event (c := .frameEcho false) running rfl link

/-- What follows a frame that was cut off, once its mismatch is counted. -/
theorem resumeCut_eq (s : State) :
    resumeCut s =
      { s with line := { s.line with exch := if s.line.state = .mustering then .echo .muster else .quiet } } := by
  unfold resumeCut
  split <;> rfl

/-! ## The halt (R31, R151, R162) -/

theorem lt_length_of_isBound {s : State} {k : Nat} (h : isBound s k = true) : k < s.line.nodes.length := by
  by_contra out
  rw [isBound, List.getElem?_eq_none (Nat.le_of_not_lt out)] at h
  cases h

theorem haltLine_carsNotice (s : State) :
    (haltLine s).link.notices.cars = (haltedCars s).link.notices.cars := by
  rw [haltLine_eq]
  by_cases withdrawn : s.ctl.mode = .active ∨ s.ctl.mode = .inhibited
  · simp only [if_pos withdrawn]; rfl
  · simp only [if_neg withdrawn]; rfl

theorem haltLine_lineNotice (s : State) :
    (haltLine s).link.notices.line = { pending := true, flags := s.link.notices.line.flags ||| 1#16 } := by
  rw [haltLine_eq]
  by_cases withdrawn : s.ctl.mode = .active ∨ s.ctl.mode = .inhibited
  · simp only [if_pos withdrawn]; rfl
  · simp only [if_neg withdrawn]; rfl

/-- The report of the halt reaches the mode controller in ACTIVE and INHIBITED (R31). -/
theorem haltLine_leavesMode {s : State} (withdrawn : s.ctl.mode = .active ∨ s.ctl.mode = .inhibited) :
    (haltLine s).ctl.mode = .standby ∧ (haltLine s).ctl.cause = .lineHalted ∧
      (haltLine s).link.notices.mode.pending = true := by
  rw [haltLine_eq]
  simp only [if_pos withdrawn, true_and]
  rfl

theorem haltLine_keepsMode {s : State} (other : s.ctl.mode = .setup ∨ s.ctl.mode = .standby) :
    (haltLine s).ctl.mode = s.ctl.mode ∧ (haltLine s).ctl.cause = s.ctl.cause ∧
      (haltLine s).link.notices.mode = s.link.notices.mode := by
  have stays : ¬(s.ctl.mode = .active ∨ s.ctl.mode = .inhibited) := by
    rcases other with e | e <;> simp [e]
  rw [haltLine_eq]
  simp only [if_neg stays, true_and]
  rfl

/-- The return of the FOLLOWING cars, where the mode is left, is no other car's (R31, R126). -/
theorem haltLine_place {s : State} {k : Nat} {c : Channel} (place : (haltedCars s).chans[k]? = some c)
    (still : c.state ≠ .following) : (haltLine s).chans[k]? = some c := by
  rw [haltLine_eq]
  by_cases withdrawn : s.ctl.mode = .active ∨ s.ctl.mode = .inhibited
  · simp only [if_pos withdrawn, List.getElem?_map, place, Option.map_some, Channel.toReturning_of_ne still]
  · simpa only [if_neg withdrawn] using place

/-- A car whose node is bound takes the fault of the halt (R162, step 3). -/
theorem haltLine_bound {s : State} {k : Nat} {c : Channel} (inside : k < s.cars.length) (place : s.chans[k]? = some c)
    (bound : isBound s k = true) :
    (isNews .lineHalted c = true → (haltLine s).link.notices.cars.pending = true) ∧
      ∃ d, (haltLine s).chans[k]? = some d ∧ GainsFault .lineHalted c d := by
  obtain ⟨news, d, there, gains⟩ := (haltedCars_halted s).own k (List.mem_range.2 inside) c place bound
  rw [haltLine_carsNotice]
  exact ⟨news, d, haltLine_place there gains.not_following, gains⟩

/-- A car without a bound node keeps its channel, unless it is FOLLOWING. -/
theorem haltLine_unbound {s : State} {k : Nat} {c : Channel} (place : s.chans[k]? = some c)
    (unbound : isBound s k = false) (still : c.state ≠ .following) : (haltLine s).chans[k]? = some c := by
  obtain ⟨d, there, may⟩ := (haltedCars_halted s).others k c place (.inr unbound)
  obtain rfl := may.of_ne still
  exact haltLine_place there still

/-- Settles O52: the mismatch of each kind of frame below the third, and the halt of the third and of the command. -/
theorem echoMismatchesAreCountedAndTheThirdHalts : Obligations.EchoMismatchesAreCountedAndTheThirdHalts := by
  intro s running
  have mismatch := exec_mismatch running
  refine ⟨fun f sent few => ⟨undelivered f (countMismatch s), by rw [mismatch, echoMismatched_sent few sent], ?_⟩,
    fun a x sent few => exec_mismatch_quiet running (echoMismatched_take few sent) rfl,
    fun cut few => exec_mismatch_quiet running ((echoMismatched_cut few cut).trans (resumeCut_eq _)) rfl,
    fun c table _ halts => ?_⟩
  · obtain ⟨_, _, _, _, _, _, _, e⟩ := OnlyGoesOn.undelivered f (countMismatch s)
    refine ⟨by rw [e]; rfl, by rw [e]; rfl, by rw [e]; rfl, by rw [e]; rfl, by rw [e]; rfl, by rw [e]; rfl,
      by rw [e]; rfl, by rw [e]; rfl, by rw [e]; rfl, ?_, ?_, ?_, ?_, ?_, ?_, ?_⟩
    · rintro points rfl
      exact askAfter_follows 0 rfl rfl
    · rintro a rfl
      exact askAfter_follows a rfl rfl
    · rintro a w i v rfl
      exact ⟨rfl, rfl, rfl⟩
    · rintro (rfl | ⟨a, rfl⟩) <;> exact ⟨rfl, rfl, rfl⟩
    · intro outside kind
      have ends : undelivered f (countMismatch s) = endCycle (countMismatch s) := by
        rcases kind with ⟨x, a, rfl⟩ | ⟨x, rfl⟩ <;> exact if_neg outside
      rw [ends]
      exact ⟨rfl, rfl, rfl⟩
    · rintro m rfl muster
      rw [undelivered, openRound_eq (s := countMismatch s) muster]
      exact ⟨rfl, rfl, rfl⟩
    · intro m mustering muster kind
      have round (drew : Bool) {t : State} := endRound_ends (s := countMismatch s) (t := t) muster (drew := drew)
      rcases kind with rfl | ⟨x, a, rfl⟩ | ⟨x, rfl⟩
      · exact round false rfl
      · exact round true (if_pos mustering)
      · exact round true (if_pos mustering)
  · obtain ⟨_, entries, _⟩ := table
    have acts : exec c s = .next (chooseIfIdle (haltLine (countMismatch s))) := by
      rcases halts with ⟨rfl, third, sent⟩ | ⟨rfl, carries⟩
      · rw [mismatch, echoMismatched_third third sent]
      · rw [exec_event (c := .lineHalt) s rfl, act_running _ running, haltCarrying, if_pos carries]
    have own (k : Nat) (d : Channel) (place : s.chans[k]? = some d) (bound : isBound s k = true) :=
      haltLine_bound (s := countMismatch s) (entries ▸ lt_length_of_isBound bound) place bound
    have others (k : Nat) (d : Channel) (place : s.chans[k]? = some d) (unbound : isBound s k = false) :=
      haltLine_unbound (s := countMismatch s) place unbound
    have left := haltLine_leavesMode (s := countMismatch s)
    have kept := haltLine_keepsMode (s := countMismatch s)
    have raised := haltLine_lineNotice (countMismatch s)
    rw [haltLine_eq] at acts own others left kept raised
    exact ⟨_, acts, rfl, rfl, rfl, rfl, rfl, rfl, rfl, rfl, rfl, rfl, rfl, rfl, rfl, rfl, rfl, rfl, rfl, left, kept,
      raised, own, others, _, rfl, rollCallFrames_none _ _, fun m => rollCallFrames_some _ _⟩

end Sys2Proof.Machine

namespace Sys2Proof.Machine

open Sys2Proof

/-! ## From the frame of a request back to the request (R188, R190) -/

/-- The words read from the fields of a list of words are the words. -/
theorem wordsOf_flatMap (l : List Word) : wordsOf l.length (l.flatMap bytes4) = some l := by
  induction l with
  | nil => rfl
  | cons w l ih =>
    show (wordsOf l.length (l.flatMap bytes4)).map (word _ _ _ _ :: ·) = _
    rw [ih, word_bytes4]
    rfl

/-- A body of car records reads back as the records where it holds as many as are asked for, and as none otherwise. -/
theorem carsOf_flatMap (n : Nat) (l : List CarWire) :
    carsOf n (l.flatMap carBytes) = if l.length = n then some l else none := by
  induction l generalizing n with
  | nil => cases n <;> rfl
  | cons c l ih =>
    cases n with
    | zero => rfl
    | succ n =>
      show (carsOf n (l.flatMap carBytes)).map _ = _
      rw [ih, word_bytes4, half_bytes2, half_bytes2, half_bytes2]
      by_cases h : l.length = n <;> simp [h]

/-- A body of segment records reads back as the records where it holds as many as are asked for, and as none otherwise.
-/
theorem segmentsOf_flatMap (n : Nat) (l : List SegmentWire) :
    segmentsOf n (l.flatMap segmentBytes) = if l.length = n then some l else none := by
  induction l generalizing n with
  | nil => cases n <;> rfl
  | cons g l ih =>
    cases n with
    | zero => rfl
    | succ n =>
      show (segmentsOf n (l.flatMap segmentBytes)).map _ = _
      rw [ih, word_bytes4, word_bytes4, half_bytes2, half_bytes2, half_bytes2, half_bytes2, half_bytes2]
      by_cases h : l.length = n <;> simp [h]

theorem decodeParameters_requestBody (v : Vector Word 28) :
    decodeParameters (requestBody (.setParameters v)) = .request (.setParameters v) := by
  have words : wordsOf 28 (v.toList.flatMap bytes4) = some v.toList := by
    have h := wordsOf_flatMap v.toList
    rwa [Vector.length_toList] at h
  rw [requestBody, decodeParameters, words]
  exact dif_pos v.length_toList

/-- The link reads from a request's frame the request, or BAD_LENGTH where the records are not as many as the count
(R176, R190). -/
theorem decodeFrame_requestFrame (tag : Byte) (r : Request) :
    decodeFrame (requestFrame tag r) = if lengthAgrees r = true then .request r else .badLength := by
  cases r with
  | startRun origin => exact congrArg (fun w => Decoded.request (.startRun w)) (word_bytes4 origin)
  | setParameters v => exact decodeParameters_requestBody v
  | setFormation count r1 r2 r3 records =>
    show decodeFormation (count :: r1 :: r2 :: r3 :: records.flatMap carBytes) = _
    rw [decodeFormation, carsOf_flatMap, lengthAgrees]
    by_cases h : records.length = count.toNat <;> simp [h]
  | resolveCapture number r2 r3 x =>
    exact congrArg₂ (fun n w => Decoded.request (.resolveCapture n r2 r3 w)) (half_bytes2 number) (word_bytes4 x)
  | openBatch declared => exact congrArg (fun w => Decoded.request (.openBatch w)) (word_bytes4 declared)
  | addSegments count r1 r2 r3 records =>
    show decodeSegments (count :: r1 :: r2 :: r3 :: records.flatMap segmentBytes) = _
    rw [decodeSegments, segmentsOf_flatMap, lengthAgrees]
    by_cases h : records.length = count.toNat <;> simp [h]
  | truncateGeometry x => exact congrArg (fun w => Decoded.request (.truncateGeometry w)) (word_bytes4 x)
  | nodeTransfer car direction item r3 value =>
    exact congrArg (fun v => Decoded.request (.nodeTransfer car direction item r3 v)) (half_bytes2 value)
  | setReporting period => exact congrArg (fun p => Decoded.request (.setReporting p)) (half_bytes2 period)
  | _ => rfl

/-- The frame of a request is handled as the request is (R176). -/
theorem handleFrame_requestFrame (tag : Byte) (r : Request) :
    handleFrame (requestFrame tag r) = handleRequest tag r := by
  funext s
  rw [handleFrame, decodeFrame_requestFrame]
  cases h : lengthAgrees r with
  | true => rfl
  | false => exact (if_pos (by rw [h]; rfl)).symm

/-- The commands that stand for a frame: the unknown kind's and the requests'. -/
theorem commandFrame_cases {c : Instr} {f : Frame} (h : commandFrame c = some f) :
    c = .unknownKind f.kind f.tag f.body ∨ ∃ tag r, commandRequest c = some (tag, r) ∧ f = requestFrame tag r := by
  unfold commandFrame at h
  split at h
  · cases h
    exact .inl rfl
  · obtain ⟨⟨tag, r⟩, request, frame⟩ := Option.map_eq_some_iff.1 h
    exact .inr ⟨tag, r, request, frame.symm⟩

/-- A request that has ended is its frame accepted. -/
theorem submit_eq (tag : Byte) (r : Request) : submit tag r = acceptFrame (requestFrame tag r) := by
  funext s
  rw [submit, acceptFrame, handleFrame_requestFrame]

/-- A command that stands for a frame acts as the good end of that frame (R174; log entry 11). -/
theorem exec_commandFrame {c : Instr} {f : Frame} (s : State) (h : commandFrame c = some f) :
    exec c s = act (acceptFrame f) s := by
  rcases commandFrame_cases h with rfl | ⟨tag, r, request, rfl⟩
  · rfl
  · rw [exec_submit s request, submit_eq]

/-- Settles O4: the frame of a request is handled as the request, and an unknown kind's is its own. -/
theorem requestCommandsActAsTheirFrames : Obligations.RequestCommandsActAsTheirFrames :=
  fun _ _ s h => exec_commandFrame s h

/-! ## What stays settled, and the request slot (R174, R175, R176) -/

/-- A command that leaves what waits for the transmitter as it stands leaves the state that its effect does (R180). -/
theorem act_settled {f : State → State} {s t : State} (running : Running s) (h : f s = t)
    (sending : t.link.sending = s.link.sending) (reply : t.link.reply = s.link.reply)
    (completions : t.link.completions = s.link.completions) (notices : t.link.notices = s.link.notices) :
    act f s = .next t := by
  rw [act_running f running, h, running.2.chooses_nothing sending reply completions notices]

/-- Settles O20: the frame is dropped at an occupied slot and waits in an empty one. -/
theorem framesWaitOrAreRefusedAtTheSlot : Obligations.FramesWaitOrAreRefusedAtTheSlot := by
  intro c f s frame running blocked
  have notReady : isReady s = false := by
    rcases blocked with reply | waiting
    · cases e : s.link.reply with
      | none => exact absurd e reply
      | some g => simp [isReady, e]
    · simp [isReady, waiting]
  rw [exec_commandFrame s frame]
  refine ⟨fun occupied => ?_, fun empty => ?_⟩
  · exact act_settled running (receive_drop f _ s (Option.isSome_iff_ne_none.2 occupied)) rfl rfl rfl rfl
  · exact act_settled running (receive_wait f _ s empty notReady) rfl rfl rfl rfl

end Sys2Proof.Machine

namespace Sys2Proof.Machine

open Sys2Proof

/-! ## The receiver (R170 to R172) -/

/-- The parity mark: an odd number of ones among the data bits and the parity bit (R170, R171). -/
theorem parityMark_eq (d : Byte) (p : Bool) :
    parityMark d p =
      decide (((List.range 8).countP (fun i => d.getLsbD i) + (if p then 1 else 0)) % 2 = 1) := by
  have odd : isOdd d = decide ((List.range 8).countP d.getLsbD % 2 = 1) := by
    rw [Bool.eq_iff_iff, isOdd_iff, decide_eq_true_iff]
  rw [parityMark, odd]
  show (decide ((List.range 8).countP d.getLsbD % 2 = 1) != p) = decide (((List.range 8).countP d.getLsbD + _) % 2 = 1)
  rcases Nat.mod_two_eq_zero_or_one ((List.range 8).countP d.getLsbD) with e | e <;> cases p <;> simp [e, Nat.add_mod]

theorem isBreak_eq (d : Byte) (p e : Bool) : isBreak d p e = decide (d = 0#8 ∧ p = false ∧ e = false) := by
  rw [Bool.eq_iff_iff]
  simp [isBreak, and_assoc]

theorem receiveCharacter_waits {l : HostLink} (wait : l.waitIdle = true) (d : Byte) (p e : Bool) :
    receiveCharacter d p e l = l := if_pos wait

/-- A character joins a FIFO with room, the pending overrun among its marks (R171). -/
theorem receiveCharacter_joins {l : HostLink} (wait : l.waitIdle = false) (room : l.fifo.length < 64) (d : Byte)
    (p e : Bool) :
    receiveCharacter d p e l = { l with
      fifo := l.fifo ++ [RxChar.mk d (parityMark d p) (!e) l.overrun false]
      overrun := false, gapRunning := true, waitIdle := isBreak d p e } := by
  rw [receiveCharacter, if_neg (by simp [wait]), storeCharacter,
    if_pos (show l.fifo.length < Config.fifoCapacity from room)]

/-- A character is lost at a full FIFO and leaves an overrun pending (R171). -/
theorem receiveCharacter_lost {l : HostLink} (wait : l.waitIdle = false) (full : 64 ≤ l.fifo.length) (d : Byte)
    (p e : Bool) :
    receiveCharacter d p e l =
      { l with overrun := true, gapRunning := true, waitIdle := isBreak d p e } := by
  rw [receiveCharacter, if_neg (by simp [wait]), storeCharacter,
    if_neg (show ¬l.fifo.length < Config.fifoCapacity from Nat.not_lt.2 full)]

theorem markNewest_append (l : List RxChar) (c : RxChar) : markNewest (l ++ [c]) = l ++ [{ c with gap := true }] := by
  induction l with
  | nil => rfl
  | cons a l ih =>
    cases l with
    | nil => rfl
    | cons b l => exact congrArg (a :: ·) ih

theorem hearGap_deaf {s : State} (h : s.link.gapRunning = false ∨ s.link.waitIdle = true) : hearGap s = s :=
  if_neg (by rcases h with h | h <;> simp [h])

theorem hearGap_expires {s : State} (runs : s.link.gapRunning = true) (idle : s.link.waitIdle = false) :
    hearGap s = expireGap s := if_pos (by simp [runs, idle])

/-- The gap timer's expiry marks the newest character of the FIFO (R172). -/
theorem expireGap_marks {s : State} {l : List RxChar} {c : RxChar} (fifo : s.link.fifo = l ++ [c]) :
    expireGap s = s.setLink { s.link with gapRunning := false, fifo := l ++ [{ c with gap := true }] } := by
  rw [expireGap, fifo, markNewest_append]
  exact if_neg (by simp)

/-- The gap timer's expiry reaches the assembler at once where the FIFO is empty (R172). -/
theorem expireGap_reaches {s : State} (empty : s.link.fifo = []) :
    expireGap s = assembleGap (s.setLink { s.link with gapRunning := false }) := by
  have unmarked : markNewest s.link.fifo = s.link.fifo := by rw [empty]; rfl
  rw [expireGap, unmarked]
  exact if_pos (by rw [empty]; rfl)

theorem assembleGap_hunt {s : State} (h : s.link.asm = .hunt) : assembleGap s = s := by rw [assembleGap, h]

/-- A gap discards a frame in progress as broken (R173, R175). -/
theorem assembleGap_broken {s : State} (h : s.link.asm ≠ .hunt) :
    assembleGap s = s.setLink { s.link with asm := .hunt, broken := countUp s.link.broken 65535 } := by
  unfold assembleGap
  split
  · next hunt => exact absurd hunt h
  · rfl
  · rfl

/-- Settles O57: the idle level, a character while waiting, with room and with none, and the gap timer's expiry. -/
theorem charactersAndGapsEnterTheFifo : Obligations.CharactersAndGapsEnterTheFifo := by
  intro s running
  refine ⟨act_settled running rfl rfl rfl rfl rfl, fun d p e wait => ?_, fun d p e wait room => ?_,
    fun d p e wait full => ?_, fun deaf => ?_,
    fun runs idle => ⟨fun l c fifo => ?_, fun empty hunt => ?_, fun empty busy => ?_⟩⟩
  · exact act_settled running (congrArg s.setLink (receiveCharacter_waits wait d p e)) rfl rfl rfl rfl
  · refine act_settled running ?_ rfl rfl rfl rfl
    rw [hearCharacter, receiveCharacter_joins wait room, parityMark_eq, isBreak_eq]
    rfl
  · refine act_settled running ?_ rfl rfl rfl rfl
    rw [hearCharacter, receiveCharacter_lost wait full, isBreak_eq]
    rfl
  · exact act_settled running (hearGap_deaf deaf) rfl rfl rfl rfl
  · exact act_settled running ((hearGap_expires runs idle).trans (expireGap_marks fifo)) rfl rfl rfl rfl
  · refine act_settled running ?_ rfl rfl rfl rfl
    rw [hearGap_expires runs idle, expireGap_reaches empty]
    exact assembleGap_hunt hunt
  · refine act_settled running ?_ rfl rfl rfl rfl
    rw [hearGap_expires runs idle, expireGap_reaches empty]
    exact assembleGap_broken busy

end Sys2Proof.Machine

namespace Sys2Proof.Machine

open Sys2Proof

/-! ## What leaves the queue and the frame assembler -/

/-- What only a step and the receiver write: the queue and the state of the frame assembler. -/
def State.intake (s : State) : List Instr × Assembler := (s.pending, s.link.asm)

theorem State.intake_pending {s t : State} (h : t.intake = s.intake) : t.pending = s.pending := congrArg Prod.fst h

theorem State.intake_asm {s t : State} (h : t.intake = s.intake) : t.link.asm = s.link.asm := congrArg Prod.snd h

@[simp] theorem State.raiseIf_intake (s : State) (c : Bool) (k : NoticeKind) (f : Half) :
    (s.raiseIf c k f).intake = s.intake := by
  rw [State.raiseIf_eq]
  rfl

/-! ### The channels and the channel unit -/

@[simp] theorem addFault_intake (k : Nat) (kind : FaultKind) (s : State) : (addFault k kind s).intake = s.intake := by
  rw [addFault_frame]
  rfl

@[simp] theorem loseNode_intake (k : Nat) (s : State) : (loseNode k s).intake = s.intake := by
  rw [loseNode_frame]
  rfl

theorem takeTargets_intake (s : State) : (takeTargets s).intake = s.intake := by
  unfold takeTargets
  split <;> rfl

@[simp] theorem trackingTest_intake (k : Nat) (s : State) : (trackingTest k s).intake = s.intake := by
  unfold trackingTest
  split
  · rfl
  · split
    · rfl
    · split
      · dsimp only
        split
        · exact addFault_intake _ _ _
        · rfl
      · rfl

@[simp] theorem notReadyTest_intake (k : Nat) (cond : NodeCond) (s : State) :
    (notReadyTest k cond s).intake = s.intake := by
  unfold notReadyTest
  split <;> rfl

@[simp] theorem takeStat_intake (k : Nat) (angle : Int) (cond : NodeCond) (flags : NodeFlags) (s : State) :
    (takeStat k angle cond flags s).intake = s.intake := by
  show State.intake (if cond = .fault then _ else _) = _
  split
  · exact addFault_intake _ _ _
  · rw [notReadyTest_intake, trackingTest_intake]
    rfl

theorem testTracking_intake (k : Nat) (s : State) : (testTracking k s).intake = s.intake := by
  unfold testTracking
  split
  · exact trackingTest_intake _ _
  · rfl

theorem handleClearCarFault_intake (tag car : Byte) (s : State) :
    (handleClearCarFault tag car s).intake = s.intake := by
  unfold handleClearCarFault
  dsimp only
  split
  · rfl
  · split
    · rfl
    · split <;> rfl

theorem handleQueryCar_intake (tag car : Byte) (s : State) : (handleQueryCar tag car s).intake = s.intake := by
  unfold handleQueryCar
  dsimp only
  split
  · rfl
  · split <;> rfl

/-! ### The mode controller and the host link -/

theorem handleCommission_intake (tag : Byte) (s : State) : (handleCommission tag s).intake = s.intake := by
  unfold handleCommission
  split <;> rfl

theorem handleReturnToSetup_intake (tag : Byte) (s : State) : (handleReturnToSetup tag s).intake = s.intake := by
  unfold handleReturnToSetup
  split <;> rfl

theorem handleStartRun_intake (tag : Byte) (origin : Word) (s : State) :
    (handleStartRun tag origin s).intake = s.intake := by
  unfold handleStartRun
  split <;> rfl

theorem handleEnableTilt_intake (tag : Byte) (s : State) : (handleEnableTilt tag s).intake = s.intake := by
  unfold handleEnableTilt
  split
  · rfl
  · split <;> rfl

theorem handleResumeTilt_intake (tag : Byte) (s : State) : (handleResumeTilt tag s).intake = s.intake := by
  unfold handleResumeTilt
  split <;> rfl

@[simp] theorem acceptAsserted_intake (s : State) : (acceptAsserted s).intake = s.intake := by
  unfold acceptAsserted
  dsimp only
  split <;> rfl

theorem sampleInhibit_intake (asserted : Bool) (s : State) : (sampleInhibit asserted s).intake = s.intake := by
  unfold sampleInhibit
  split
  · rfl
  · split
    · rfl
    · split
      · exact acceptAsserted_intake s
      · rfl

theorem inhibitAsserted_intake (s : State) : (inhibitAsserted s).intake = s.intake := by
  unfold inhibitAsserted
  split
  · rfl
  · exact acceptAsserted_intake s

theorem inhibitReleased_intake (s : State) : (inhibitReleased s).intake = s.intake := by
  unfold inhibitReleased
  split <;> rfl

@[simp] theorem countReport_intake (s : State) : (countReport s).intake = s.intake := by
  rw [countReport_frame]
  rfl

theorem hearReport_intake (s : State) : (hearReport s).intake = s.intake := by
  unfold hearReport
  split
  · exact countReport_intake s
  · rfl

/-! ### The formation and parameter store and the planner -/

theorem handleSetFormation_intake (tag count : Byte) (records : List CarWire) (s : State) :
    (handleSetFormation tag count records s).intake = s.intake := by
  unfold handleSetFormation
  split
  · rfl
  · split <;> rfl

theorem handleSetParameters_intake (tag : Byte) (v : Vector Word 28) (s : State) :
    (handleSetParameters tag v s).intake = s.intake := by
  unfold handleSetParameters
  split
  · rfl
  · dsimp only
    split <;> rfl

theorem computePlan_intake (s : State) : (computePlan s).intake = s.intake := by
  unfold computePlan
  split
  · rw [countReport_intake, testExhaustion_eq]
    rfl
  · rfl

/-! ### The geometry store and the history ring -/

@[simp] theorem evaluateLookAhead_intake (s : State) : (evaluateLookAhead s).intake = s.intake := by
  rcases evaluateLookAhead_cases s with e | ⟨-, -, e⟩ | ⟨-, -, e⟩ <;> rw [e] <;> rfl

@[simp] theorem releaseSegments_intake (s : State) : (releaseSegments s).intake = s.intake :=
  evaluateLookAhead_intake _

@[simp] theorem takeSample_intake (accel : Option Int) (s : State) : (takeSample accel s).intake = s.intake := by
  rw [takeSample_eq]
  rfl

theorem handleOpenBatch_intake (tag : Byte) (declared : Word) (s : State) :
    (handleOpenBatch tag declared s).intake = s.intake := by
  unfold handleOpenBatch
  split <;> rfl

theorem handleAddSegments_intake (tag count : Byte) (records : List SegmentWire) (s : State) :
    (handleAddSegments tag count records s).intake = s.intake := by
  unfold handleAddSegments
  split
  · rfl
  · split
    · rfl
    · split
      · rfl
      · split <;> rfl

theorem handleCloseBatch_intake (tag count : Byte) (s : State) : (handleCloseBatch tag count s).intake = s.intake := by
  unfold handleCloseBatch
  split
  · rfl
  · split
    · rfl
    · exact evaluateLookAhead_intake _

theorem handleTruncate_intake (tag : Byte) (x : Word) (s : State) : (handleTruncate tag x s).intake = s.intake := by
  unfold handleTruncate
  dsimp only
  split
  · rfl
  · split
    · rfl
    · split
      · rfl
      · exact evaluateLookAhead_intake _

/-! ### The odometer -/

@[simp] theorem failTacho_intake (n : TachoName) (s : State) : (failTacho n s).intake = s.intake := by
  rw [failTacho_eq]
  rfl

@[simp] theorem evaluateTrust_intake (s : State) : (evaluateTrust s).intake = s.intake := State.raiseIf_intake _ _ _ _

@[simp] theorem expireCaptures_intake (s : State) : (expireCaptures s).intake = s.intake := State.raiseIf_intake _ _ _ _

@[simp] theorem slotInRun_intake (c : SlotChoice) (s : State) : (slotInRun c s).intake = s.intake := by
  rw [slotInRun]
  show (releaseSegments _).intake = _
  rw [releaseSegments_intake, expireCaptures_intake, evaluateTrust_intake, State.raiseIf_intake]
  rfl

theorem takeSlot_intake (s : State) : (takeSlot s).intake = s.intake := by
  have failures (t : State) : (failTacho .b (failTacho .a t)).intake = t.intake := by
    rw [failTacho_intake, failTacho_intake]
  unfold takeSlot
  dsimp only
  split
  · rw [slotInRun_intake]
    exact failures _
  · exact failures _

@[simp] theorem captureEdge_intake (s : State) : (captureEdge s).intake = s.intake := by
  rcases captureEdge_cases s with ⟨-, e⟩ | ⟨-, -, e⟩ | ⟨n, -, -, e⟩ <;> rw [e]
  · rfl
  · show (State.raiseIf _ _ _ _).intake = _
    rw [State.raiseIf_intake]
    rfl

@[simp] theorem acceptHigh_intake (s : State) : (acceptHigh s).intake = s.intake := captureEdge_intake _

theorem sampleMarker_intake (high : Bool) (s : State) : (sampleMarker high s).intake = s.intake := by
  unfold sampleMarker
  split
  · rfl
  · split
    · rfl
    · split
      · exact acceptHigh_intake s
      · rfl

theorem markerRises_intake (s : State) : (markerRises s).intake = s.intake := by
  unfold markerRises
  split
  · rfl
  · exact acceptHigh_intake s

@[simp] theorem applyFix_intake (n : Nat) (d : Int) (s : State) : (applyFix n d s).intake = s.intake := by
  rw [applyFix, evaluateLookAhead_intake, evaluateTrust_intake]
  exact State.raiseIf_intake _ _ _ _

theorem handleResolveCapture_intake (tag : Byte) (number : Half) (x : Word) (s : State) :
    (handleResolveCapture tag number x s).intake = s.intake := by
  unfold handleResolveCapture
  dsimp only
  split
  · rfl
  · split
    · exact applyFix_intake _ _ s
    · split
      · split <;> rfl
      · rfl

/-! ### The car line -/

@[simp] theorem completeHead_intake (r : ResultCode) (value : Half) (s : State) :
    (completeHead r value s).intake = s.intake := by
  rw [completeHead_eq]
  rfl

@[simp] theorem parkSerial_intake (x : Serial) (s : State) : (parkSerial x s).intake = s.intake := by
  rw [parkSerial_frame]
  rfl

@[simp] theorem askAfter_intake (a : Nat) (s : State) : (askAfter a s).intake = s.intake := by
  rw [askAfter_frame]
  rfl

@[simp] theorem endMuster_intake (overfull : Bool) (s : State) : (endMuster overfull s).intake = s.intake := by
  rw [endMuster_eq]
  rfl

@[simp] theorem haltLine_intake (s : State) : (haltLine s).intake = s.intake := by
  rw [haltLine_eq]
  rfl

@[simp] theorem haltCarrying_intake (s : State) : (haltCarrying s).intake = s.intake := by
  unfold haltCarrying
  split
  · exact haltLine_intake _
  · rfl

@[simp] theorem endRound_intake (drew : Bool) (s : State) : (endRound drew s).intake = s.intake := by
  unfold endRound
  split
  · exact endMuster_intake _ _
  · rfl

theorem hearMusterEnd_intake (s : State) : (hearMusterEnd s).intake = s.intake := by
  unfold hearMusterEnd
  split
  · exact endMuster_intake _ _
  · rfl

theorem handleRollCall_intake (tag : Byte) (s : State) : (handleRollCall tag s).intake = s.intake := by
  unfold handleRollCall
  split
  · rfl
  · split
    · rfl
    · split
      · rfl
      · rw [startMuster_eq]
        rfl

theorem handleNodeTransfer_intake (tag car direction item : Byte) (value : Half) (s : State) :
    (handleNodeTransfer tag car direction item value s).intake = s.intake := by
  unfold handleNodeTransfer
  dsimp only
  split
  · rfl
  · split
    · rfl
    · split
      · rfl
      · split <;> rfl

theorem startCycle_intake (s : State) : (startCycle s).intake = s.intake := by
  unfold startCycle
  split <;> rfl

@[simp] theorem goodStat_intake (a : Nat) (angle : Int) (cond : NodeCond) (flags : NodeFlags) (accel : Option Int)
    (s : State) : (goodStat a angle cond flags accel s).intake = s.intake := by
  unfold goodStat
  split
  · dsimp only
    split
    · rw [takeSample_intake]
      exact takeStat_intake _ _ _ _ _
    · exact takeStat_intake _ _ _ _ _
  · rfl

@[simp] theorem missAt_intake (a : Nat) (s : State) : (missAt a s).intake = s.intake := by
  unfold missAt
  split
  · dsimp only
    split
    · rfl
    · split
      · exact loseNode_intake _ _
      · rfl
  · rfl

@[simp] theorem noReply_intake (s : State) : (noReply s).intake = s.intake := by
  unfold noReply
  split
  case h_1 => rw [askAfter_intake, missAt_intake]
  case h_2 => exact completeHead_intake _ _ s
  all_goals rfl

theorem hearStat_intake (address : Nat) (angle : Int) (cond : NodeCond) (flags : NodeFlags) (accel : Option Int)
    (s : State) : (hearStat address angle cond flags accel s).intake = s.intake := by
  unfold hearStat
  split
  · rw [askAfter_intake, goodStat_intake]
  · exact noReply_intake s

theorem hearNodeLost_intake (car : Nat) (s : State) : (hearNodeLost car s).intake = s.intake := by
  unfold hearNodeLost
  split
  · split
    · rw [askAfter_intake, loseNode_intake]
    · exact loseNode_intake _ _
  · rfl

theorem hearMrsp_intake (address : Nat) (accepted : Bool) (value : Half) (s : State) :
    (hearMrsp address accepted value s).intake = s.intake := by
  unfold hearMrsp
  split
  · exact completeHead_intake _ _ s
  · exact noReply_intake s

theorem answerClaim_intake (x : Serial) (s : State) : (answerClaim x s).intake = s.intake := by
  unfold answerClaim
  split
  · rfl
  · split
    · rfl
    · split <;> rfl

theorem hearRound_intake (outcome : ClaimOutcome) (s : State) : (hearRound outcome s).intake = s.intake := by
  unfold hearRound
  split
  · cases outcome with
    | noClaim => exact endMuster_intake _ _
    | garbled => exact endRound_intake _ _
    | claim x => exact answerClaim_intake _ _
  · rfl

theorem answerJoin_intake (x : Serial) (s : State) : (answerJoin x s).intake = s.intake := by
  unfold answerJoin
  split
  · show State.intake (if _ then _ else _) = _
    split
    · exact addFault_intake _ _ _
    · rfl
  · dsimp only
    split <;> rfl

theorem hearKey_intake (key : WindowKey) (s : State) : (hearKey key s).intake = s.intake := by
  unfold hearKey
  split
  · cases key with
    | join x => exact answerJoin_intake _ _
    | _ => rfl
  · rfl

theorem hearAlrt_intake (address : Nat) (kind : AlertKind) (detail : Half) (s : State) :
    (hearAlrt address kind detail s).intake = s.intake := by
  unfold hearAlrt
  split
  · unfold answerAlert
    split
    · split <;> rfl
    · rfl
  · exact noReply_intake s

@[simp] theorem keepAlert_intake (k : Nat) (kind : AlertKind) (detail : Half) (s : State) :
    (keepAlert k kind detail s).intake = s.intake := by
  unfold keepAlert
  dsimp only
  split
  · rw [addFault_intake, State.raiseIf_intake]
    rfl
  · rw [State.raiseIf_intake]
    rfl

@[simp] theorem nodeNamed_intake (x : Serial) (a : Nat) (s : State) : (nodeNamed x a s).intake = s.intake := by
  unfold nodeNamed
  split
  · split <;> rfl
  · rfl

@[simp] theorem nodeJoined_intake (x : Serial) (a : Nat) (s : State) : (nodeJoined x a s).intake = s.intake := by
  unfold nodeJoined
  split <;> rfl

theorem delivered_intake (f : LineFrame) (s : State) : (delivered f s).intake = s.intake := by
  cases f with
  | name x a =>
    unfold delivered
    dsimp only
    split
    · rw [endRound_intake, nodeNamed_intake]
    · exact nodeJoined_intake _ _ _
  | park x =>
    unfold delivered
    dsimp only
    split
    · rw [endRound_intake, parkSerial_intake]
    · exact parkSerial_intake _ _
  | set points => exact askAfter_intake _ _
  | _ => rfl

theorem OnlyGoesOn.intake {s t : State} (h : OnlyGoesOn s t) : t.intake = s.intake := by
  obtain ⟨_, _, _, _, _, _, _, rfl⟩ := h
  rfl

@[simp] theorem resumeCut_intake (s : State) : (resumeCut s).intake = s.intake := by
  unfold resumeCut
  split <;> rfl

theorem echoMatched_intake (s : State) : (echoMatched s).intake = s.intake := by
  unfold echoMatched
  dsimp only
  split
  case h_1 => exact delivered_intake _ _
  case h_2 => exact keepAlert_intake _ _ _ _
  case h_4 => exact resumeCut_intake _
  all_goals rfl

theorem echoMismatched_intake (s : State) : (echoMismatched s).intake = s.intake := by
  have third {u : State} (goesOn : u.intake = s.intake) :
      (if 3 ≤ (countMismatch s).line.echoCount then haltLine (countMismatch s) else u).intake = s.intake := by
    split
    · exact haltLine_intake _
    · exact goesOn
  unfold echoMismatched
  dsimp only
  split
  case h_1 => exact third (OnlyGoesOn.undelivered _ (countMismatch s)).intake
  case h_2 => exact third rfl
  case h_3 => exact third (resumeCut_intake _)
  all_goals rfl

theorem hearEcho_intake (isMatch : Bool) (s : State) : (hearEcho isMatch s).intake = s.intake := by
  unfold hearEcho
  split
  · exact echoMatched_intake s
  · exact echoMismatched_intake s

/-! ### Every event and every request -/

/-- No event of the outside touches the queue or the frame assembler. -/
theorem event_intake {c : Instr} {f : State → State} (h : eventOf c = some f) (s : State) :
    (f s).intake = s.intake := by
  cases c <;> simp only [eventOf, Option.some.injEq, reduceCtorEq] at h <;> subst h
  case inhibitSample asserted => exact sampleInhibit_intake _ _
  case inhibitAsserted => exact inhibitAsserted_intake _
  case inhibitReleased => exact inhibitReleased_intake _
  case markerSample high => exact sampleMarker_intake _ _
  case markerRisingEdge => exact markerRises_intake _
  case pulseDecode channel levels => rfl
  case odometrySlot => exact takeSlot_intake _
  case tachoFailed channel => exact failTacho_intake _ _
  case plannerComputation => exact computePlan_intake _
  case telemetryCountdown => exact hearReport_intake _
  case targetListArrival => exact takeTargets_intake _
  case lineCycle => exact startCycle_intake _
  case frameEcho isMatch => exact hearEcho_intake _ _
  case lineHalt => exact haltCarrying_intake _
  case stat => exact hearStat_intake _ _ _ _ _ _
  case tracking car => exact testTracking_intake _ _
  case replySilence => exact noReply_intake _
  case nodeLost car => exact hearNodeLost_intake _ _
  case mrsp => exact hearMrsp_intake _ _ _ _
  case claimRound outcome => exact hearRound_intake _ _
  case musterEnd => exact hearMusterEnd_intake _
  case contentionKey key => exact hearKey_intake _ _
  case alrt => exact hearAlrt_intake _ _ _ _

/-- No owner of a request touches the queue or the frame assembler. -/
theorem serve_intake (tag : Byte) (r : Request) (s : State) : (serve tag r s).intake = s.intake := by
  cases r with
  | commission => exact handleCommission_intake _ _
  | returnToSetup => exact handleReturnToSetup_intake _ _
  | startRun origin => exact handleStartRun_intake _ _ _
  | enableTilt => exact handleEnableTilt_intake _ _
  | resumeTilt => exact handleResumeTilt_intake _ _
  | setParameters v => exact handleSetParameters_intake _ _ _
  | setFormation => exact handleSetFormation_intake _ _ _ _
  | resolveCapture => exact handleResolveCapture_intake _ _ _ _
  | openBatch => exact handleOpenBatch_intake _ _ _
  | addSegments => exact handleAddSegments_intake _ _ _ _
  | closeBatch => exact handleCloseBatch_intake _ _ _
  | truncateGeometry => exact handleTruncate_intake _ _ _
  | queryCar => exact handleQueryCar_intake _ _ _
  | clearCarFault => exact handleClearCarFault_intake _ _ _
  | rollCall => exact handleRollCall_intake _ _
  | nodeTransfer => exact handleNodeTransfer_intake _ _ _ _ _ _
  | _ => rfl

@[simp] theorem handleRequest_intake (tag : Byte) (r : Request) (s : State) :
    (handleRequest tag r s).intake = s.intake := by
  unfold handleRequest
  split
  · rfl
  · split
    · rfl
    · split
      · rfl
      · exact serve_intake tag r s

@[simp] theorem handleFrame_intake (f : Frame) (s : State) : (handleFrame f s).intake = s.intake := by
  unfold handleFrame
  split
  · rfl
  · rfl
  · exact handleRequest_intake _ _ s

/-- The end of a good frame leaves the queue and the frame assembler (R174, R176). -/
@[simp] theorem acceptFrame_intake (f : Frame) (s : State) : (acceptFrame f s).intake = s.intake := by
  rcases receive_cases f (handleFrame f) s with e | e | e <;> rw [acceptFrame, e]
  · rfl
  · exact handleFrame_intake f s
  · rfl

end Sys2Proof.Machine

namespace Sys2Proof.Machine

open Sys2Proof

/-! ## The end of a frame (R174) -/

theorem coveredPart_append {covered crc : List Byte} (two : crc.length = 2) :
    coveredPart (covered ++ crc) = covered := by
  simp [coveredPart, two]

/-- The last two characters of the buffer are compared with the CRC of those before them (R174). -/
theorem crcMatches_append {covered crc : List Byte} (two : crc.length = 2) :
    crcMatches (covered ++ crc) = (crc == bytes2 (crc16 covered)) := by
  rw [crcMatches, coveredPart_append two]
  simp [two]

/-- The frame whose characters the buffer holds is read from it (R188). -/
theorem frameOf_coveredBytes (f : Frame) {crc : List Byte} (two : crc.length = 2) :
    frameOf (coveredBytes f ++ crc) = f := by
  rw [frameOf, coveredPart_append two]
  rfl

theorem endFrame_spoiled (buffer : List Byte) (s : State) : endFrame buffer true s = discardBad s := rfl

theorem endFrame_differs {buffer : List Byte} (differs : crcMatches buffer = false) (spoiled : Bool) (s : State) :
    endFrame buffer spoiled s = discardBad s := by
  rw [endFrame, differs]
  exact ite_self _

theorem endFrame_good {buffer : List Byte} (same : crcMatches buffer = true) (s : State) :
    endFrame buffer false s = acceptFrame (frameOf buffer) (s.setLink { s.link with asm := .hunt }) := if_pos same

/-- Once a frame has ended the assembler hunts, whatever the frame was (R173, R174). -/
theorem endFrame_hunts (buffer : List Byte) (spoiled : Bool) (s : State) :
    (endFrame buffer spoiled s).link.asm = .hunt := by
  cases spoiled with
  | true => rfl
  | false =>
    cases same : crcMatches buffer with
    | false => rw [endFrame_differs same]; rfl
    | true => rw [endFrame_good same, State.intake_asm (acceptFrame_intake _ _)]; rfl

/-! ## The assembler by its states (R173) -/

/-- The state once the character at the head of the FIFO has left it. -/
def State.popped (s : State) (rest : List RxChar) : State := s.setLink { s.link with fifo := rest }

section
variable {s : State} {c : RxChar}

/-- A hunting assembler begins a frame with a SYNC that no mark spoils. -/
theorem assemble_sync (hunt : s.link.asm = .hunt) (sync : c.data = 0xC5#8 ∧ c.isMarked = false) :
    assemble c s = s.setLink { s.link with asm := .length } := by
  rw [assemble, hunt]
  exact if_pos sync

theorem assemble_noise (hunt : s.link.asm = .hunt) (noise : ¬(c.data = 0xC5#8 ∧ c.isMarked = false)) :
    assemble c s = s := by
  rw [assemble, hunt]
  exact if_neg noise

/-- A LENGTH in its range begins the collection of the characters it announces and of the CRC. -/
theorem assemble_length (length : s.link.asm = .length)
    (range : 2 ≤ c.data.toNat ∧ c.data.toNat ≤ 250 ∧ c.isMarked = false) :
    assemble c s = s.setLink { s.link with asm := .collect [c.data] (c.data.toNat + 2) false } := by
  rw [assemble, length]
  exact if_pos range

theorem assemble_badLength (length : s.link.asm = .length)
    (outside : ¬(2 ≤ c.data.toNat ∧ c.data.toNat ≤ 250 ∧ c.isMarked = false)) : assemble c s = discardBad s := by
  rw [assemble, length]
  exact if_neg outside

variable {buffer : List Byte} {left : Nat} {spoiled : Bool}

theorem assemble_more (collect : s.link.asm = .collect buffer left spoiled) (more : 2 ≤ left) :
    assemble c s =
      s.setLink { s.link with asm := .collect (buffer ++ [c.data]) (left - 1) (spoiled || c.isMarked) } := by
  rw [assemble, collect]
  exact if_neg (by omega)

theorem assemble_last (collect : s.link.asm = .collect buffer 1 spoiled) :
    assemble c s = endFrame (buffer ++ [c.data]) (spoiled || c.isMarked) s := by
  rw [assemble, collect]
  exact if_pos le_rfl

/-- A character with which a frame begins or goes on leaves the assembler in the frame. -/
theorem assemble_progress (progress : (s.link.asm = .hunt ∧ c.data = 0xC5#8 ∧ c.isMarked = false) ∨
    (s.link.asm = .length ∧ 2 ≤ c.data.toNat ∧ c.data.toNat ≤ 250 ∧ c.isMarked = false) ∨
    (∃ buffer left spoiled, s.link.asm = .collect buffer left spoiled ∧ 2 ≤ left)) :
    ∃ asm, assemble c s = s.setLink { s.link with asm := asm } ∧ asm ≠ .hunt := by
  rcases progress with ⟨hunt, sync⟩ | ⟨length, range⟩ | ⟨buffer, left, spoiled, collect, more⟩
  · exact ⟨_, assemble_sync hunt sync, nofun⟩
  · exact ⟨_, assemble_length length range, nofun⟩
  · exact ⟨_, assemble_more collect more, nofun⟩

/-! ## The taking of a character (R171, R173) -/

variable {rest : List RxChar}

theorem takeCharacter_empty (empty : s.link.fifo = []) : takeCharacter s = s := by rw [takeCharacter, empty]

theorem takeCharacter_plain (fifo : s.link.fifo = c :: rest) (plain : c.gap = false) :
    takeCharacter s = assemble c (s.popped rest) := by
  rw [takeCharacter, fifo]
  exact if_neg (by simp [plain])

/-- A character that carries the gap mark is taken first, and the gap acts then (R173). -/
theorem takeCharacter_gap (fifo : s.link.fifo = c :: rest) (marked : c.gap = true) :
    takeCharacter s = assembleGap (assemble c (s.popped rest)) := by
  rw [takeCharacter, fifo]
  exact if_pos marked

/-- A gap behind the last character of a frame changes nothing (R173). -/
theorem takeCharacter_gap_last (fifo : s.link.fifo = c :: rest) (marked : c.gap = true)
    (collect : s.link.asm = .collect buffer 1 spoiled) :
    takeCharacter s = takeCharacter { s with link := { s.link with fifo := { c with gap := false } :: rest } } := by
  rw [takeCharacter_gap fifo marked, takeCharacter_plain rfl rfl, assemble_last (s := s.popped rest) collect,
    assembleGap_hunt (endFrame_hunts _ _ _)]
  exact (assemble_last (s := s.popped rest) (c := { c with gap := false }) collect).symm

theorem takeLast_last (fifo : s.link.fifo = c :: rest) (collect : s.link.asm = .collect buffer 1 spoiled) :
    takeLast s = takeCharacter s := if_pos (by simp [atFrameEnd, fifo, collect])

theorem takeLast_more (collect : s.link.asm = .collect buffer left spoiled) (more : 2 ≤ left) : takeLast s = s :=
  if_neg (by simp [atFrameEnd, collect]; omega)

theorem takeLast_empty (empty : s.link.fifo = []) : takeLast s = s := by
  unfold takeLast
  split
  · exact takeCharacter_empty empty
  · rfl

/-- The command that takes a character and the one that takes the last of a frame act alike on the last (R174; log
entry 4). -/
theorem exec_last {e : Instr} (fifo : s.link.fifo = c :: rest) (plain : c.gap = false)
    (collect : s.link.asm = .collect buffer 1 spoiled) (which : e = .characterTaken ∨ e = .frameEnd)
    (running : Running s) :
    exec e s =
      .next (chooseIfIdle (endFrame (buffer ++ [c.data]) (spoiled || c.isMarked) (s.popped rest))) := by
  have taken : takeCharacter s = endFrame (buffer ++ [c.data]) (spoiled || c.isMarked) (s.popped rest) := by
    rw [takeCharacter_plain fifo plain, assemble_last (s := s.popped rest) collect]
  rcases which with rfl | rfl
  · exact (act_running _ running).trans (by rw [taken])
  · exact (act_running _ running).trans (by rw [takeLast_last fifo collect, taken])

/-- The last character of a frame whose CRC is the one computed: the frame is accepted (R174, R188). -/
theorem exec_last_good {e : Instr} (running : Running s) (fifo : s.link.fifo = c :: rest) (plain : c.gap = false)
    (collect : s.link.asm = .collect buffer 1 spoiled) (which : e = .characterTaken ∨ e = .frameEnd)
    (clean : (spoiled || c.isMarked) = false) {f : Frame}
    (bytes : buffer ++ [c.data] = coveredBytes f ++ bytes2 (crc16 (coveredBytes f))) :
    exec e s = .next (chooseIfIdle (acceptFrame f { s with link := { s.link with fifo := rest, asm := .hunt } })) := by
  have same : crcMatches (buffer ++ [c.data]) = true := by rw [bytes, crcMatches_append rfl, beq_self_eq_true]
  rw [exec_last fifo plain collect which running, clean, endFrame_good same, bytes, frameOf_coveredBytes f rfl]
  rfl

end

/-- Settles O58: the empty FIFO, a character with the gap mark, and a character without it, each by the assembler's
state. -/
theorem theAssemblerTakesCharacters : Obligations.TheAssemblerTakesCharacters := by
  intro s running
  refine ⟨fun empty => ⟨act_settled running (takeCharacter_empty empty) rfl rfl rfl rfl,
      act_settled running (takeLast_empty empty) rfl rfl rfl rfl⟩,
    fun c rest fifo gap => ?_, fun c rest fifo plain => ?_⟩
  · have taken := takeCharacter_gap fifo gap
    refine ⟨fun hunt noise => ?_, fun length outside => ?_, fun progress => ?_, fun buffer spoiled collect => ?_⟩
    · refine act_settled running ?_ rfl rfl rfl rfl
      have ignored : assemble c (s.popped rest) = s.popped rest :=
        assemble_noise hunt (by rcases noise with h | h <;> simp [h])
      rw [taken, ignored]
      exact assembleGap_hunt hunt
    · refine act_settled running ?_ rfl rfl rfl rfl
      rw [taken, assemble_badLength (s := s.popped rest) length outside]
      exact assembleGap_hunt rfl
    · obtain ⟨asm, assembled, busy⟩ := assemble_progress (s := s.popped rest) progress
      refine act_settled running ?_ rfl rfl rfl rfl
      rw [taken, assembled]
      exact assembleGap_broken busy
    · have unmarked : Running { s with link := { s.link with fifo := { c with gap := false } :: rest } } := running
      show act takeCharacter s = act takeCharacter _
      rw [act_running _ running, act_running _ unmarked, takeCharacter_gap_last fifo gap collect]
  · have taken := takeCharacter_plain fifo plain
    refine ⟨fun hunt => ?_, fun length low high clean => ?_, fun length outside => ?_,
      fun buffer left spoiled collect more => ⟨?_, ?_⟩,
      fun buffer spoiled e collect which => ⟨fun spoilt => ?_, fun f _ clean bytes => ?_,
        fun covered crc clean bytes two differs => ?_⟩⟩
    · refine act_settled running (taken.trans ?_) rfl rfl rfl rfl
      split
      · next sync => exact assemble_sync hunt sync
      · next noise =>
        rw [assemble_noise (s := s.popped rest) hunt noise, ← hunt]
        rfl
    · exact act_settled running (taken.trans (assemble_length length ⟨low, high, clean⟩)) rfl rfl rfl rfl
    · exact act_settled running (taken.trans (assemble_badLength length outside)) rfl rfl rfl rfl
    · exact act_settled running (taken.trans (assemble_more collect more)) rfl rfl rfl rfl
    · exact act_settled running (takeLast_more collect more) rfl rfl rfl rfl
    · rw [exec_last fifo plain collect which running, spoilt, endFrame_spoiled]
      exact congrArg _ (running.2.chooses_nothing rfl rfl rfl rfl)
    · exact exec_last_good running fifo plain collect which clean bytes
    · rw [exec_last fifo plain collect which running, bytes,
        endFrame_differs (by rw [crcMatches_append two]; simpa using differs)]
      exact congrArg _ (running.2.chooses_nothing rfl rfl rfl rfl)

end Sys2Proof.Machine

namespace Sys2Proof.Machine

open Sys2Proof

/-! ## The reserved bytes of a request (R176, check 4; R189, R190) -/

/-- The first byte of an ascending list that is not 0 is the one of least offset. -/
theorem firstNonZero_eq_some {l : List (Nat × Byte)} (ascending : l.Pairwise (fun d e => d.1 < e.1)) {n : Nat} :
    firstNonZero l = some n ↔ (∃ b, (n, b) ∈ l ∧ b ≠ 0#8) ∧ ∀ e ∈ l, e.1 < n → e.2 = 0#8 := by
  induction l with
  | nil => simp [firstNonZero]
  | cons e l ih =>
    obtain ⟨offset, b⟩ := e
    obtain ⟨later, others⟩ := List.pairwise_cons.1 ascending
    rw [firstNonZero]
    split
    · next zero =>
      subst zero
      rw [ih others, List.forall_mem_cons]
      refine and_congr
        ⟨fun ⟨b, place, notZero⟩ => ⟨b, .tail _ place, notZero⟩, fun ⟨b, place, notZero⟩ => ?_⟩
        ⟨fun before => ⟨fun _ => rfl, before⟩, fun ⟨_, before⟩ => before⟩
      rcases List.mem_cons.1 place with same | place
      · cases same
        exact absurd rfl notZero
      · exact ⟨b, place, notZero⟩
    · next notZero =>
      refine ⟨fun h => ?_, fun ⟨⟨c, place, _⟩, before⟩ => ?_⟩
      · cases h
        refine ⟨⟨b, .head _, notZero⟩, fun e place less => ?_⟩
        rcases List.mem_cons.1 place with rfl | place
        · exact absurd less (Nat.lt_irrefl _)
        · exact absurd less (Nat.lt_asymm (later e place))
      · rcases List.mem_cons.1 place with same | place
        · cases same
          rfl
        · exact absurd (before _ (.head _) (later _ place)) notZero

/-- The list holds, in ascending order, the bytes of the body at the offsets that satisfy p, which all lie inside it. -/
structure HoldsAt (l : List (Nat × Byte)) (p : Nat → Prop) (body : List Byte) : Prop where
  ascending : l.Pairwise (fun d e => d.1 < e.1)
  holds : ∀ n b, (n, b) ∈ l ↔ p n ∧ body[n]? = some b
  inside : ∀ n, p n → n < body.length

/-- The entries of a list, their offsets k further on. -/
def shifted (k : Nat) (l : List (Nat × Byte)) : List (Nat × Byte) := l.map (fun e => (k + e.1, e.2))

theorem mem_shifted {k n : Nat} {b : Byte} {l : List (Nat × Byte)} :
    (n, b) ∈ shifted k l ↔ ∃ j, (j, b) ∈ l ∧ n = k + j := by
  simp [shifted, eq_comm]

theorem shifted_shifted (j k : Nat) (l : List (Nat × Byte)) : shifted j (shifted k l) = shifted (j + k) l := by
  simp [shifted, Nat.add_assoc]

namespace HoldsAt

variable {l m : List (Nat × Byte)} {p q : Nat → Prop} {body rest : List Byte}

theorem congr (h : HoldsAt l p body) (same : ∀ n, q n ↔ p n) : HoldsAt l q body := by
  obtain rfl : q = p := funext fun n => propext (same n)
  exact h

/-- Listed offsets, each with the byte that the body has there. -/
theorem offsets (places : List Nat) (body : List Byte) (ascending : places.Pairwise (· < ·))
    (inside : ∀ n ∈ places, n < body.length) :
    HoldsAt (places.map fun n => (n, body.getD n 0#8)) (· ∈ places) body where
  ascending := List.pairwise_map.2 ascending
  holds n b := by
    simp only [List.mem_map, Prod.mk.injEq]
    constructor
    · rintro ⟨_, place, rfl, rfl⟩
      rw [List.getD_eq_getElem _ _ (inside _ place)]
      exact ⟨place, List.getElem?_eq_getElem _⟩
    · rintro ⟨place, byte⟩
      exact ⟨n, place, rfl, by rw [List.getD_eq_getElem?_getD, byte]; rfl⟩
  inside := inside

/-- The offsets of a body and those of what follows it. -/
theorem append (h : HoldsAt l p body) (g : HoldsAt m q rest) :
    HoldsAt (l ++ shifted body.length m) (fun n => p n ∨ ∃ j, q j ∧ n = body.length + j) (body ++ rest) where
  ascending := by
    refine List.pairwise_append.2 ⟨h.ascending, ?_, ?_⟩
    · exact List.pairwise_map.2 (g.ascending.imp fun less => Nat.add_lt_add_left less _)
    · rintro ⟨n, b⟩ first ⟨k, c⟩ second
      obtain ⟨j, -, rfl⟩ := mem_shifted.1 second
      exact Nat.lt_add_right _ (h.inside n ((h.holds n b).1 first).1)
  holds n b := by
    rw [List.mem_append, mem_shifted, h.holds]
    constructor
    · rintro (⟨place, byte⟩ | ⟨j, place, rfl⟩)
      · exact ⟨.inl place, by rwa [List.getElem?_append_left (h.inside n place)]⟩
      · obtain ⟨place, byte⟩ := (g.holds j b).1 place
        refine ⟨.inr ⟨j, place, rfl⟩, ?_⟩
        rwa [List.getElem?_append_right (Nat.le_add_right _ _), Nat.add_sub_cancel_left]
    · rintro ⟨place | ⟨j, place, rfl⟩, byte⟩
      · rw [List.getElem?_append_left (h.inside n place)] at byte
        exact .inl ⟨place, byte⟩
      · rw [List.getElem?_append_right (Nat.le_add_right _ _), Nat.add_sub_cancel_left] at byte
        exact .inr ⟨j, (g.holds j b).2 ⟨place, byte⟩, rfl⟩
  inside n := by
    rw [List.length_append]
    rintro (place | ⟨j, place, rfl⟩)
    · exact Nat.lt_add_right _ (h.inside n place)
    · exact Nat.add_lt_add_left (g.inside j place) _

/-- No byte of such a list differs from 0 exactly where every byte at the offsets is 0. -/
theorem firstNonZero_none (h : HoldsAt l p body) : firstNonZero l = none ↔ ∀ n, p n → body[n]? = some 0#8 := by
  rw [firstNonZero_eq_none]
  constructor
  · intro zero n place
    have byte := List.getElem?_eq_getElem (h.inside n place)
    exact byte.trans (congrArg some (zero _ ((h.holds n _).2 ⟨place, byte⟩)))
  · rintro zero ⟨n, b⟩ listed
    obtain ⟨place, byte⟩ := (h.holds n b).1 listed
    exact Option.some.inj (byte.symm.trans (zero n place))

/-- The first byte of such a list that differs from 0 is the one at the least of the offsets. -/
theorem firstNonZero_some (h : HoldsAt l p body) (n : Nat) :
    firstNonZero l = some n ↔ p n ∧ body[n]? ≠ some 0#8 ∧ ∀ m, m < n → p m → body[m]? = some 0#8 := by
  rw [firstNonZero_eq_some h.ascending]
  constructor
  · rintro ⟨⟨b, listed, notZero⟩, before⟩
    obtain ⟨place, byte⟩ := (h.holds n b).1 listed
    refine ⟨place, by simpa [byte] using notZero, fun m less earlier => ?_⟩
    have byte := List.getElem?_eq_getElem (h.inside m earlier)
    exact byte.trans (congrArg some (before _ ((h.holds m _).2 ⟨earlier, byte⟩) less))
  · rintro ⟨place, notZero, before⟩
    have byte := List.getElem?_eq_getElem (h.inside n place)
    refine ⟨⟨_, (h.holds n _).2 ⟨place, byte⟩, fun zero => notZero (by rw [byte, zero])⟩, ?_⟩
    rintro ⟨m, b⟩ listed less
    obtain ⟨earlier, byte⟩ := (h.holds m b).1 listed
    exact Option.some.inj (byte.symm.trans (before m less earlier))

end HoldsAt

/-- The reserved bytes of a list of records of w bytes, given those of one record. -/
def recordsReserved {α : Type} (w : Nat) (reserved : α → List (Nat × Byte)) : List α → List (Nat × Byte)
  | [] => []
  | a :: rest => reserved a ++ shifted w (recordsReserved w reserved rest)

/-- The reserved bytes of records that follow one another (R190). -/
theorem recordsReserved_holdsAt {α : Type} {w : Nat} {reserved : α → List (Nat × Byte)} {bytes : α → List Byte}
    {p : Nat → Prop} (width : ∀ a, (bytes a).length = w) (each : ∀ a, HoldsAt (reserved a) p (bytes a))
    (l : List α) :
    HoldsAt (recordsReserved w reserved l) (fun n => ∃ i, i < l.length ∧ ∃ j, p j ∧ n = w * i + j)
      (l.flatMap bytes) := by
  induction l with
  | nil => exact ⟨.nil, by simp [recordsReserved], by simp⟩
  | cons a l ih =>
    have both := (each a).append ih
    rw [width] at both
    refine both.congr fun n => ⟨?_, ?_⟩
    · rintro ⟨i, inside, j, place, rfl⟩
      cases i with
      | zero => exact .inl (by rwa [Nat.mul_zero, Nat.zero_add])
      | succ i =>
        exact .inr ⟨w * i + j, ⟨i, Nat.lt_of_succ_lt_succ inside, j, place, rfl⟩, by rw [Nat.mul_succ]; omega⟩
    · rintro (place | ⟨_, ⟨i, inside, j, place, rfl⟩, rfl⟩)
      · exact ⟨0, Nat.succ_pos _, n, place, by omega⟩
      · exact ⟨i + 1, Nat.succ_lt_succ inside, j, place, by rw [Nat.mul_succ]; omega⟩

/-- The reserved bytes of a car record (R190). -/
def carRecordReserved (c : CarWire) : List (Nat × Byte) := [(3, c.rsv3), (14, c.rsv14), (15, c.rsv15)]

/-- The reserved bytes of a segment record (R190). -/
def segmentRecordReserved (g : SegmentWire) : List (Nat × Byte) := [(18, g.rsv18), (19, g.rsv19)]

theorem carReserved_eq (k : Nat) (l : List CarWire) :
    carReserved k l = shifted k (recordsReserved 16 carRecordReserved l) := by
  induction l generalizing k with
  | nil => rfl
  | cons c l ih =>
    rw [carReserved, ih, ← shifted_shifted]
    exact (List.map_append (f := fun e : Nat × Byte => (k + e.1, e.2)) (l₁ := carRecordReserved c)).symm

theorem segmentReserved_eq (k : Nat) (l : List SegmentWire) :
    segmentReserved k l = shifted k (recordsReserved 20 segmentRecordReserved l) := by
  induction l generalizing k with
  | nil => rfl
  | cons g l ih =>
    rw [segmentReserved, ih, ← shifted_shifted]
    exact (List.map_append (f := fun e : Nat × Byte => (k + e.1, e.2)) (l₁ := segmentRecordReserved g)).symm

theorem carRecordReserved_holdsAt (c : CarWire) :
    HoldsAt (carRecordReserved c) (· ∈ [3, 14, 15]) (carBytes c) :=
  .offsets [3, 14, 15] (carBytes c) (by decide) (by simp [carBytes])

theorem segmentRecordReserved_holdsAt (g : SegmentWire) :
    HoldsAt (segmentRecordReserved g) (· ∈ [18, 19]) (segmentBytes g) :=
  .offsets [18, 19] (segmentBytes g) (by decide) (by simp [segmentBytes])

/-- The reserved bytes of a request, with their body offsets. -/
def reservedBytes : Request → List (Nat × Byte)
  | .setFormation _ r1 r2 r3 records => (1, r1) :: (2, r2) :: (3, r3) :: carReserved 4 records
  | .resolveCapture _ r2 r3 _ => [(2, r2), (3, r3)]
  | .addSegments _ r1 r2 r3 records => (1, r1) :: (2, r2) :: (3, r3) :: segmentReserved 4 records
  | .nodeTransfer _ _ _ r3 _ => [(3, r3)]
  | _ => []

theorem reservedFault_eq (r : Request) : reservedFault r = firstNonZero (reservedBytes r) := by cases r <;> rfl

/-- The three reserved bytes behind the count, and those of the records after them (R190). -/
theorem countedReserved_holdsAt {α : Type} {w : Nat} {reserved : α → List (Nat × Byte)} {bytes : α → List Byte}
    {p : Nat → Prop} (width : ∀ a, (bytes a).length = w) (each : ∀ a, HoldsAt (reserved a) p (bytes a))
    (l : List α) (count r1 r2 r3 : Byte) :
    HoldsAt ((1, r1) :: (2, r2) :: (3, r3) :: shifted 4 (recordsReserved w reserved l))
      (fun n => n ∈ [1, 2, 3] ∨ ∃ i, i < l.length ∧ ∃ j, p j ∧ n = 4 + w * i + j)
      ([count, r1, r2, r3] ++ l.flatMap bytes) := by
  have first := HoldsAt.offsets [1, 2, 3] [count, r1, r2, r3] (by decide) (by simp)
  refine (first.append (recordsReserved_holdsAt width each l)).congr fun n => or_congr_right ⟨?_, ?_⟩
  · rintro ⟨i, inside, j, place, rfl⟩
    exact ⟨_, ⟨i, inside, j, place, rfl⟩, Nat.add_assoc _ _ _⟩
  · rintro ⟨_, ⟨i, inside, j, place, rfl⟩, rfl⟩
    exact ⟨i, inside, j, place, (Nat.add_assoc _ _ _).symm⟩

/-- The reserved bytes of a request are those of its body at the offsets that R190 marks reserved. -/
theorem reservedBytes_holdsAt (r : Request) : HoldsAt (reservedBytes r) (isReserved r) (requestBody r) := by
  cases r with
  | setFormation count r1 r2 r3 records =>
    have all := countedReserved_holdsAt (w := 16) (fun _ => rfl) carRecordReserved_holdsAt records count r1 r2 r3
    rw [← carReserved_eq] at all
    exact all.congr fun n => by simp [isReserved, or_assoc]
  | resolveCapture number r2 r3 x =>
    exact (HoldsAt.offsets [2, 3] (bytes2 number ++ [r2, r3] ++ bytes4 x) (by decide) (by simp)).congr
      fun n => by simp [isReserved]
  | addSegments count r1 r2 r3 records =>
    have all := countedReserved_holdsAt (w := 20) (fun _ => rfl) segmentRecordReserved_holdsAt records count r1 r2 r3
    rw [← segmentReserved_eq] at all
    exact all.congr fun n => by simp [isReserved, or_assoc]
  | nodeTransfer car direction item r3 value =>
    exact (HoldsAt.offsets [3] ([car, direction, item, r3] ++ bytes2 value) (by decide) (by simp)).congr
      fun n => by simp [isReserved]
  | _ => exact ⟨.nil, by simp [reservedBytes, isReserved], nofun⟩

end Sys2Proof.Machine

namespace Sys2Proof.Machine

open Sys2Proof

/-! ## The length of a body (R176, check 2; R190) -/

/-- What a reader makes of a body whose kind is known: a body of n bytes is no BAD_LENGTH, every other body is. -/
def ChecksLength (d : Decoded) (n : Nat) (body : List Byte) : Prop :=
  d ≠ .unknownKind ∧ (d = .badLength ↔ body.length ≠ n)

theorem ChecksLength.accepts {r : Request} {n : Nat} {body : List Byte} (h : body.length = n) :
    ChecksLength (.request r) n body := ⟨nofun, nofun, fun other => absurd h other⟩

theorem ChecksLength.rejects {n : Nat} {body : List Byte} (h : body.length ≠ n) : ChecksLength .badLength n body :=
  ⟨nofun, fun _ => h, fun _ => rfl⟩

theorem decodeEmpty_checks (r : Request) (body : List Byte) : ChecksLength (decodeEmpty r body) 0 body := by
  cases body with
  | nil => exact .accepts rfl
  | cons => exact .rejects nofun

theorem decodeByte_checks (f : Byte → Request) (body : List Byte) : ChecksLength (decodeByte f body) 1 body := by
  unfold decodeByte
  split
  · exact .accepts rfl
  · next other =>
    exact .rejects fun length => match body, length with
      | [_], _ => other _ rfl

theorem decodeHalf_checks (f : Half → Request) (body : List Byte) : ChecksLength (decodeHalf f body) 2 body := by
  unfold decodeHalf
  split
  · exact .accepts rfl
  · next other =>
    exact .rejects fun length => match body, length with
      | [_, _], _ => other _ _ rfl

theorem decodeWord_checks (f : Word → Request) (body : List Byte) : ChecksLength (decodeWord f body) 4 body := by
  unfold decodeWord
  split
  · exact .accepts rfl
  · next other =>
    exact .rejects fun length => match body, length with
      | [_, _, _, _], _ => other _ _ _ _ rfl

theorem decodeResolve_checks (body : List Byte) : ChecksLength (decodeResolve body) 8 body := by
  unfold decodeResolve
  split
  · exact .accepts rfl
  · next other =>
    exact .rejects fun length => match body, length with
      | [_, _, _, _, _, _, _, _], _ => other _ _ _ _ _ _ _ _ rfl

theorem decodeTransfer_checks (body : List Byte) : ChecksLength (decodeTransfer body) 6 body := by
  unfold decodeTransfer
  split
  · exact .accepts rfl
  · next other =>
    exact .rejects fun length => match body, length with
      | [_, _, _, _, _, _], _ => other _ _ _ _ _ _ rfl

/-! ### Bodies of records -/

/-- A reader of exactly n records of w bytes each. -/
structure ReadsRecords {α : Type} (read : Nat → List Byte → Option (List α)) (w : Nat) : Prop where
  done : read 0 [] = some []
  excess : ∀ b l, read 0 (b :: l) = none
  record : ∀ n head rest, head.length = w → ∃ a, read (n + 1) (head ++ rest) = (read n rest).map (a :: ·)
  short : ∀ n l, l.length < w → read (n + 1) l = none

/-- Such a reader reads n records from a body of exactly their length, and none from any other body. -/
theorem ReadsRecords.length_iff {α : Type} {read : Nat → List Byte → Option (List α)} {w : Nat}
    (reads : ReadsRecords read w) (n : Nat) (body : List Byte) :
    if body.length = w * n then ∃ l, read n body = some l ∧ l.length = n else read n body = none := by
  induction n generalizing body with
  | zero =>
    cases body with
    | nil => exact (if_pos (Nat.mul_zero w).symm).mpr ⟨[], reads.done, rfl⟩
    | cons b l => exact (if_neg (by simp)).mpr (reads.excess b l)
  | succ n ih =>
    rcases Nat.lt_or_ge body.length w with less | enough
    · exact (if_neg (by rw [Nat.mul_succ]; omega)).mpr (reads.short n body less)
    · obtain ⟨a, step⟩ := reads.record n (body.take w) (body.drop w) (List.length_take_of_le enough)
      rw [List.take_append_drop] at step
      have rest := ih (body.drop w)
      rw [step]
      split at rest
      · next fits =>
        obtain ⟨l, read, length⟩ := rest
        rw [List.length_drop] at fits
        refine (if_pos (by rw [Nat.mul_succ]; omega)).mpr ⟨a :: l, by rw [read]; rfl, ?_⟩
        rw [List.length_cons, length]
      · next other =>
        rw [List.length_drop] at other
        exact (if_neg (by rw [Nat.mul_succ]; omega)).mpr (by rw [rest]; rfl)

theorem wordsOf_reads : ReadsRecords wordsOf 4 where
  done := rfl
  excess _ _ := rfl
  record n head rest length := match head, length with
    | [_, _, _, _], _ => ⟨_, rfl⟩
  short n l less := by
    unfold wordsOf
    split
    · next e => cases e
    · simp at less; omega
    · rfl

theorem carsOf_reads : ReadsRecords carsOf 16 where
  done := rfl
  excess _ _ := rfl
  record n head rest length := match head, length with
    | [_, _, _, _, _, _, _, _, _, _, _, _, _, _, _, _], _ => ⟨_, rfl⟩
  short n l less := by
    unfold carsOf
    split
    · next e => cases e
    · simp at less; omega
    · rfl

theorem segmentsOf_reads : ReadsRecords segmentsOf 20 where
  done := rfl
  excess _ _ := rfl
  record n head rest length := match head, length with
    | [_, _, _, _, _, _, _, _, _, _, _, _, _, _, _, _, _, _, _, _], _ => ⟨_, rfl⟩
  short n l less := by
    unfold segmentsOf
    split
    · next e => cases e
    · simp at less; omega
    · rfl

theorem decodeParameters_checks (body : List Byte) : ChecksLength (decodeParameters body) 112 body := by
  have read := wordsOf_reads.length_iff 28 body
  unfold decodeParameters
  split at read
  · next fits =>
    obtain ⟨words, read, length⟩ := read
    rw [read]
    simp only [length]
    exact .accepts fits
  · next other =>
    rw [read]
    exact .rejects other

/-- A body too short for its count and the three reserved bytes has no admitted length. -/
theorem length_ne_of_short {body : List Byte} {n : Nat}
    (short : ∀ c r1 r2 r3 rest, body ≠ c :: r1 :: r2 :: r3 :: rest) : body.length ≠ 4 + n := by
  intro length
  rcases body with _ | ⟨c, _ | ⟨r1, _ | ⟨r2, _ | ⟨r3, rest⟩⟩⟩⟩
  iterate 4 exact absurd length (by simp only [List.length]; omega)
  exact short c r1 r2 r3 rest rfl

theorem decodeFormation_checks (body : List Byte) :
    ChecksLength (decodeFormation body) (4 + 16 * (body.getD 0 0#8).toNat) body := by
  unfold decodeFormation
  split
  · next count r1 r2 r3 rest =>
    have read := carsOf_reads.length_iff count.toNat rest
    split at read
    · next fits =>
      obtain ⟨records, read, -⟩ := read
      rw [read]
      exact .accepts (by simp [fits]; omega)
    · next other =>
      rw [read]
      exact .rejects (by simp; omega)
  · next short => exact .rejects (length_ne_of_short short)

theorem decodeSegments_checks (body : List Byte) :
    ChecksLength (decodeSegments body) (4 + 20 * (body.getD 0 0#8).toNat) body := by
  unfold decodeSegments
  split
  · next count r1 r2 r3 rest =>
    have read := segmentsOf_reads.length_iff count.toNat rest
    split at read
    · next fits =>
      obtain ⟨records, read, -⟩ := read
      rw [read]
      exact .accepts (by simp [fits]; omega)
    · next other =>
      rw [read]
      exact .rejects (by simp; omega)
  · next short => exact .rejects (length_ne_of_short short)

/-! ### The kinds (R176, checks 1 and 2; R188) -/

/-- A frame of a known kind is never of an unknown kind, and its length is checked against the kind's. -/
theorem decodeFrame_known {f : Frame} (known : requestCodes.contains f.kind = true) :
    ChecksLength (decodeFrame f) (admittedLength f.kind f.body) f.body := by
  obtain ⟨kind, tag, body⟩ := f
  simp only [requestCodes, List.contains_eq_mem, List.mem_cons, List.not_mem_nil, or_false, decide_eq_true_eq] at known
  rcases known with rfl | rfl | rfl | rfl | rfl | rfl | rfl | rfl | rfl | rfl | rfl | rfl | rfl | rfl | rfl | rfl | rfl
    | rfl | rfl | rfl | rfl | rfl | rfl | rfl | rfl | rfl | rfl
  exacts [decodeEmpty_checks _ _, decodeEmpty_checks _ _, decodeEmpty_checks _ _, decodeEmpty_checks _ _,
    decodeWord_checks _ _, decodeEmpty_checks _ _, decodeEmpty_checks _ _, decodeEmpty_checks _ _,
    decodeEmpty_checks _ _, decodeEmpty_checks _ _, decodeParameters_checks _, decodeEmpty_checks _ _,
    decodeFormation_checks _, decodeEmpty_checks _ _, decodeResolve_checks _, decodeEmpty_checks _ _,
    decodeWord_checks _ _, decodeSegments_checks _, decodeByte_checks _ _, decodeWord_checks _ _,
    decodeEmpty_checks _ _, decodeByte_checks _ _, decodeByte_checks _ _, decodeEmpty_checks _ _,
    decodeTransfer_checks _, decodeEmpty_checks _ _, decodeHalf_checks _ _]

theorem decodeFrame_unknown {f : Frame} (unknown : requestCodes.contains f.kind = false) :
    decodeFrame f = .unknownKind := by
  have other (n : Nat) (listed : n ∈ requestCodes.map BitVec.toNat) : f.kind.toNat ≠ n := fun same => by
    obtain ⟨code, known, rfl⟩ := List.mem_map.1 listed
    rw [BitVec.eq_of_toNat_eq same, List.contains_iff_mem.2 known] at unknown
    cases unknown
  unfold decodeFrame
  split
  case h_28 => rfl
  all_goals next code => exact absurd code (other _ (by decide))

theorem decodeFrame_eq_unknownKind (f : Frame) :
    decodeFrame f = .unknownKind ↔ requestCodes.contains f.kind = false := by
  refine ⟨fun h => ?_, decodeFrame_unknown⟩
  cases known : requestCodes.contains f.kind with
  | false => rfl
  | true => exact absurd h (decodeFrame_known known).1

theorem decodeFrame_eq_badLength (f : Frame) :
    decodeFrame f = .badLength ↔
      requestCodes.contains f.kind = true ∧ f.body.length ≠ admittedLength f.kind f.body := by
  cases known : requestCodes.contains f.kind with
  | false => simp [decodeFrame_unknown known]
  | true => simpa using (decodeFrame_known known).2

/-! ## The refusals of the link (R176, R189) -/

/-- A frame of a known kind and of a length that the kind does not admit is answered BAD_LENGTH (R176, check 2). -/
theorem handleFrame_badLength {f : Frame} (known : requestCodes.contains f.kind = true)
    (length : f.body.length ≠ admittedLength f.kind f.body) (s : State) :
    handleFrame f s = s.respond { kind := f.kind + 0x80#8, tag := f.tag, body := [2, 0, 0, 0] } := by
  rw [handleFrame, (decodeFrame_eq_badLength f).2 ⟨known, length⟩]
  rfl

/-- A frame of an unknown kind is answered UNKNOWN_KIND under the kind 0xFF (R176, check 1; R188). -/
theorem handleFrame_unknownKind {f : Frame} (unknown : requestCodes.contains f.kind = false) (s : State) :
    handleFrame f s = s.respond { kind := 0xFF#8, tag := f.tag, body := [1, 0, 0, 0] } := by
  rw [handleFrame, decodeFrame_unknown unknown]
  rfl

/-- A request whose records are not as many as its count is refused BAD_LENGTH (R176, check 2). -/
theorem handleRequest_badLength (tag : Byte) {r : Request} (length : lengthAgrees r = false) (s : State) :
    handleRequest tag r s = s.refuse (requestCode r) tag .badLength .none := if_pos (by rw [length]; rfl)

/-- A request with a reserved byte that is not 0 is refused BAD_VALUE with its offset (R176, check 4). -/
theorem handleRequest_badValue (tag : Byte) {r : Request} {s : State} {offset : Nat} (length : lengthAgrees r = true)
    (mode : admitted r s = true) (fault : reservedFault r = some offset) :
    handleRequest tag r s = s.refuseAt (requestCode r) tag .badValue .field offset := by
  simp [handleRequest, length, mode, fault]

/-- A good frame that ends on a free link is handled at once (R176). -/
theorem acceptFrame_free {s : State} (free : LinkFree s) (f : Frame) : acceptFrame f s = handleFrame f s := by
  obtain ⟨-, slot, -⟩ := id free
  exact receive_handle f _ s slot free.ready

/-- Settles O21: the reserved bytes and lengths by the form of the request, then the four answers, then the modes that
admit each request. -/
theorem theLinkRefusesInOrder : Obligations.TheLinkRefusesInOrder := by
  refine ⟨fun r => ?_, fun f => ⟨decodeFrame_eq_unknownKind f, decodeFrame_eq_badLength f⟩,
    fun f s known length => handleFrame_badLength known length s, fun s free => ?_⟩
  · rw [reservedFault_eq]
    exact ⟨(reservedBytes_holdsAt r).firstNonZero_none, (reservedBytes_holdsAt r).firstNonZero_some⟩
  · have running : Running s := free.1
    refine ⟨fun f c rest buffer _ known length fifo plain clean collect bytes => ?_,
      fun kind tag body unknown => ?_, fun c tag r request => ⟨fun length => ?_, fun length mode => ?_,
        fun offset length mode fault => ?_⟩, ?_⟩
    · have popped : LinkFree { s with link := { s.link with fifo := rest, asm := .hunt } } := free
      rw [exec_last_good running fifo plain collect (.inr rfl) clean bytes, acceptFrame_free popped,
        handleFrame_badLength known length]
    · rw [exec_commandFrame (c := .unknownKind kind tag body) s rfl, act_running _ running, acceptFrame_free free,
        handleFrame_unknownKind unknown]
    · rw [exec_request free request, handleRequest_badLength tag length]
      rfl
    · rw [exec_request free request, handleRequest_wrongMode tag r s length mode]
      rfl
    · rw [exec_request free request, handleRequest_badValue tag length mode fault, State.refuseAt_respond]
      rfl
    · refine ⟨by simp [admitted], fun v => by simp [admitted], fun n a b c l => by simp [admitted], by simp [admitted],
        fun x => by simp [admitted], by simp [admitted], by simp [admitted], by simp [admitted], by simp [admitted],
        by simp [admitted], ?_, ?_⟩
      · rintro r (⟨n, a, b, x, rfl⟩ | ⟨x, rfl⟩ | ⟨n, a, b, c, l, rfl⟩ | ⟨n, rfl⟩ | ⟨x, rfl⟩) <;> exact Iff.rfl
      · rintro r (rfl | rfl | rfl | rfl | rfl | rfl | rfl | rfl | ⟨k, rfl⟩ | ⟨k, rfl⟩ | ⟨k, d, i, z, v, rfl⟩ |
          ⟨p, rfl⟩) <;> rfl

end Sys2Proof.Machine

namespace Sys2Proof.Machine

open Sys2Proof

/-! ## The queue under the host link's own operations -/

theorem handOver_pending (s : State) : (handOver s).pending = s.pending := by
  unfold handOver
  split
  · split
    · rw [State.intake_pending (handleFrame_intake _ _)]
      rfl
    · rfl
  · rfl

theorem choose_pending (s : State) : (choose s).pending = s.pending := by
  rcases choose_cases s with ⟨f, -, e⟩ | ⟨-, f, rest, -, e⟩ | ⟨-, -, k, -, e⟩ | ⟨-, -, -, e⟩ <;> rw [e]
  · exact handOver_pending _
  · rfl
  · rw [sendNotice_eq]

theorem chooseIfIdle_pending (s : State) : (chooseIfIdle s).pending = s.pending := by
  unfold chooseIfIdle
  split
  · exact choose_pending s
  · rfl

theorem endFrame_pending (buffer : List Byte) (spoiled : Bool) (s : State) :
    (endFrame buffer spoiled s).pending = s.pending := by
  unfold endFrame
  split
  · rfl
  · split
    · rw [State.intake_pending (acceptFrame_intake _ _)]
      rfl
    · rfl

theorem assemble_pending (c : RxChar) (s : State) : (assemble c s).pending = s.pending := by
  unfold assemble
  split
  · split <;> rfl
  · split <;> rfl
  · split
    · exact endFrame_pending _ _ s
    · rfl

theorem assembleGap_pending (s : State) : (assembleGap s).pending = s.pending := by
  unfold assembleGap
  split <;> rfl

theorem takeCharacter_pending (s : State) : (takeCharacter s).pending = s.pending := by
  unfold takeCharacter
  split
  · rfl
  · dsimp only
    split
    · rw [assembleGap_pending, assemble_pending]
      rfl
    · exact assemble_pending _ _

theorem takeLast_pending (s : State) : (takeLast s).pending = s.pending := by
  unfold takeLast
  split
  · exact takeCharacter_pending s
  · rfl

theorem hearGap_pending (s : State) : (hearGap s).pending = s.pending := by
  unfold hearGap
  split
  · unfold expireGap
    dsimp only
    split
    · exact assembleGap_pending _
    · rfl
  · rfl

theorem frameSent_pending (pins : Pins) (s : State) : (frameSent pins s).pending = s.pending := by
  unfold frameSent
  split
  · rfl
  · exact choose_pending _

/-- Every command but the two of RESET_N and FRAME_SENT acts by an operation that leaves the queue. -/
theorem exec_acts_beside_queue {c : Instr} (pin : ∀ q, c ≠ .resetN q) (low : c ≠ .resetNAsserted)
    (sent : ∀ q, c ≠ .frameSent q) : ∃ f, ∀ s, exec c s = act f s ∧ (f s).pending = s.pending := by
  cases hf : commandFrame c with
  | some f => exact ⟨_, fun s => ⟨exec_commandFrame s hf, State.intake_pending (acceptFrame_intake f s)⟩⟩
  | none =>
    cases he : eventOf c with
    | some f => exact ⟨f, fun s => ⟨exec_event s he, State.intake_pending (event_intake he s)⟩⟩
    | none =>
      cases c <;> simp only [commandFrame, commandRequest, eventOf, Option.map_some, reduceCtorEq] at hf he
      case resetN pins => exact absurd rfl (pin pins)
      case resetNAsserted => exact absurd rfl low
      case frameSent pins => exact absurd rfl (sent pins)
      case characterReceived => exact ⟨_, fun _ => ⟨rfl, rfl⟩⟩
      case rxdIdleLevel => exact ⟨_, fun _ => ⟨rfl, rfl⟩⟩
      case characterTaken => exact ⟨_, fun s => ⟨rfl, takeCharacter_pending s⟩⟩
      case frameEnd => exact ⟨_, fun s => ⟨rfl, takeLast_pending s⟩⟩
      case gap => exact ⟨_, fun s => ⟨rfl, hearGap_pending s⟩⟩

/-- A command that does not reach a part held in reset answers the next state, with the queue as it was (R35). -/
theorem unlessHeld_answers {s t : State} (queue : t.pending = s.pending) :
    (∃ u, unlessHeld s t = .next u ∧ u.pending = s.pending) ∧ (s.inReset = true → unlessHeld s t = .next s) := by
  refine ⟨⟨_, rfl, ?_⟩, fun held => congrArg Host.Outcome.next (if_pos held)⟩
  split
  · rfl
  · exact queue

/-- Settles O2: RESET_N's two commands hand the queue on, and every other command acts unless the part is held. -/
theorem everyCommandAnswersNextAndKeepsTheQueue : Obligations.EveryCommandAnswersNextAndKeepsTheQueue := by
  intro c s
  by_cases pin : ∃ pins, c = .resetN pins
  · obtain ⟨pins, rfl⟩ := pin
    exact ⟨⟨_, rfl, rfl⟩, fun _ other => absurd rfl (other pins)⟩
  by_cases low : c = .resetNAsserted
  · subst low
    exact ⟨⟨_, rfl, rfl⟩, fun _ _ other => absurd rfl other⟩
  by_cases sent : ∃ pins, c = .frameSent pins
  · obtain ⟨pins, rfl⟩ := sent
    obtain ⟨answers, held⟩ := unlessHeld_answers (frameSent_pending pins s)
    exact ⟨answers, fun inReset _ _ => held inReset⟩
  · obtain ⟨f, acts⟩ := exec_acts_beside_queue (not_exists.1 pin) low (not_exists.1 sent)
    have queue : (chooseIfIdle (f (chooseIfIdle s))).pending = s.pending := by
      rw [chooseIfIdle_pending, (acts _).2, chooseIfIdle_pending]
    obtain ⟨answers, held⟩ := unlessHeld_answers queue
    rw [(acts s).1]
    exact ⟨answers, fun inReset _ _ => held inReset⟩

end Sys2Proof.Machine

namespace Sys2Proof.Machine

open Sys2Proof

/-! ## The request read from its own frame (R188, R190) -/

/-- Settles O3: a request whose records are as many as its count is not answered BAD_LENGTH. -/
theorem requestFramesDecodeToTheirRequest : Obligations.RequestFramesDecodeToTheirRequest := by
  intro tag r agrees
  rw [decodeFrame_requestFrame, if_pos agrees]

/-! ## Clean characters one after another (R173, R174, R188) -/

theorem assembleAll_cons (c : RxChar) (cs : List RxChar) (s : State) :
    assembleAll (c :: cs) s = assembleAll cs (assemble c s) := rfl

/-- The end of a frame does not read the assembler's state, which it writes. -/
theorem endFrame_setAsm (buffer : List Byte) (spoiled : Bool) (asm : Assembler) (s : State) :
    endFrame buffer spoiled (s.setLink { s.link with asm := asm }) = endFrame buffer spoiled s := rfl

/-- As many clean characters as an unspoiled collection still awaits end its frame, all of them in the buffer. -/
theorem assembleAll_collect {s : State} {buffer : List Byte} {b : Byte} {bs : List Byte}
    (collect : s.link.asm = .collect buffer (b :: bs).length false) :
    assembleAll ((b :: bs).map cleanChar) s = endFrame (buffer ++ b :: bs) false s := by
  induction bs generalizing s buffer b with
  | nil => exact assemble_last collect
  | cons next bs ih =>
    rw [List.map_cons, assembleAll_cons, assemble_more collect (by simp), ih rfl, endFrame_setAsm]
    simp [cleanChar]

/-- The LENGTH of a frame whose body it can carry begins the collection of the rest: kind, tag, body and CRC (R188). -/
theorem assemble_frameLength {f : Frame} {s : State} (fits : f.body.length ≤ 248) (length : s.link.asm = .length) :
    assemble (cleanChar (u8 (f.body.length + 2))) s =
      s.setLink { s.link with asm := .collect [u8 (f.body.length + 2)] (f.body.length + 4) false } := by
  have announced : (cleanChar (u8 (f.body.length + 2))).data.toNat = f.body.length + 2 := u8_toNat (by omega)
  rw [assemble_length length ⟨by omega, by omega, rfl⟩, announced]
  rfl

/-- A buffer that holds a frame as R188 gives it ends good, and the frame read from it is accepted. -/
theorem endFrame_frame (f : Frame) (s : State) :
    endFrame (coveredBytes f ++ bytes2 (crc16 (coveredBytes f))) false s =
      acceptFrame f (s.setLink { s.link with asm := .hunt }) := by
  have same : crcMatches (coveredBytes f ++ bytes2 (crc16 (coveredBytes f))) = true := by
    rw [crcMatches_append rfl, beq_self_eq_true]
  rw [endFrame_good same, frameOf_coveredBytes f rfl]

/-- A hunting assembler is left as it is by setting it to hunt. -/
theorem setAsm_hunt {s : State} (hunt : s.link.asm = .hunt) : s.setLink { s.link with asm := .hunt } = s := by
  rw [← hunt, State.setLink_same]

/-- Settles O5: SYNC opens the frame, LENGTH announces what is left of it, and the last character ends it good. -/
theorem cleanFramesAreAssembledWhole : Obligations.CleanFramesAreAssembledWhole := by
  intro f s fits hunt
  have collected : assembleAll ((f.kind :: f.tag :: (f.body ++ bytes2 (crc16 (coveredBytes f)))).map cleanChar)
        (s.setLink { s.link with asm := .collect [u8 (f.body.length + 2)] (f.body.length + 4) false }) =
      endFrame (coveredBytes f ++ bytes2 (crc16 (coveredBytes f))) false s :=
    assembleAll_collect (buffer := [u8 (f.body.length + 2)]) (by simp)
  calc assembleAll ((frameBytes f).map cleanChar) s
    _ = assembleAll ((coveredBytes f ++ bytes2 (crc16 (coveredBytes f))).map cleanChar)
          (s.setLink { s.link with asm := .length }) := by
      rw [frameBytes, List.map_cons, assembleAll_cons, assemble_sync hunt ⟨rfl, rfl⟩]
    _ = endFrame (coveredBytes f ++ bytes2 (crc16 (coveredBytes f))) false s := by
      rw [← collected, coveredBytes, List.cons_append, List.map_cons, assembleAll_cons, assemble_frameLength fits rfl]
      rfl
    _ = acceptFrame f s := by rw [endFrame_frame, setAsm_hunt hunt]

/-! ## The replies of the queries (R7, R15, R19, R20, R58, R83, R191) -/

theorem identityBytes_length (rate : Nat) : (identityBytes rate).length = 22 := rfl

theorem statusBytes_length (s : State) : (statusBytes s).length = 22 := rfl

/-- The bytes of GetParameters after its header: the 28 parameters and the derived constants (R191). -/
def parameterBytes (p : Params) : List Byte := (paramList p).flatMap u32 ++ derivedBytes p

theorem handleGetParameters_eq (tag : Byte) (s : State) :
    handleGetParameters tag s = s.respond (okFrame 0x11#8 tag (parameterBytes s.params)) := rfl

theorem parameterBytes_length (p : Params) : (parameterBytes p).length = 124 := rfl

theorem carRecordBytes_length (k : Nat) (cars : List Car) : (carRecordBytes k cars).length = 16 * cars.length := by
  induction cars generalizing k with
  | nil => rfl
  | cons c cars ih =>
    have record : (heldCarBytes k c).length = 16 := rfl
    rw [carRecordBytes, List.length_append, record, ih, List.length_cons]
    omega

theorem formationBytes_length (s : State) : (formationBytes s).length = 12 + 16 * s.cars.length := by
  rw [formationBytes, List.length_append, carRecordBytes_length]
  rfl

theorem captureItems_length (l : List Capture) : (l.flatMap captureBytes).length = 8 * l.length := by
  have item : (fun c => (captureBytes c).length) = fun _ => 8 := rfl
  rw [List.length_flatMap, item, List.map_const', List.sum_replicate, smul_eq_mul, Nat.mul_comm]

theorem positionReply_length (s : State) :
    (positionBytes s ++ s.odo.captures.flatMap captureBytes).length = 36 + 8 * s.odo.captures.length := by
  rw [List.length_append, captureItems_length]
  rfl

theorem geometryBytes_length (s : State) : (geometryBytes s).length = 28 := rfl

/-- Settles O22: every query passes the link's checks, and its owner writes its reply and nothing else. -/
theorem queriesAnswerOkAndChangeNothing : Obligations.QueriesAnswerOkAndChangeNothing := by
  intro s tag free
  refine ⟨⟨_, ?_, identityBytes_length s.ctl.rateCode⟩, ⟨_, ?_, statusBytes_length s⟩,
    ⟨_, ?_, parameterBytes_length s.params⟩, ⟨_, ?_, formationBytes_length s⟩, ⟨_, ?_, positionReply_length s⟩,
    ⟨_, ?_, geometryBytes_length s⟩⟩
  · rw [exec_served (c := .identify tag) free rfl rfl rfl rfl, serve, handleIdentify_eq]
  · rw [exec_served (c := .queryStatus tag) free rfl rfl rfl rfl, serve, handleQueryStatus_eq]
  · rw [exec_served (c := .getParameters tag) free rfl rfl rfl rfl, serve, handleGetParameters_eq]
  · rw [exec_getFormation tag free, handleGetFormation_eq]
  · rw [exec_served (c := .queryPosition tag) free rfl rfl rfl rfl, serve, handleQueryPosition_eq]
  · rw [exec_served (c := .queryGeometry tag) free rfl rfl rfl rfl, serve, handleQueryGeometry_eq]

end Sys2Proof.Machine

namespace Sys2Proof.Machine

open Sys2Proof

/-! ## The step by the queue (log entry 1) -/

theorem step_of_pending_cons {s : State} {c : Instr} {rest : List Instr} (front : s.pending = c :: rest) :
    step s = exec c { s with pending := rest } := by
  simp only [step, front]

theorem step_of_pending_nil {s : State} (idle : s.pending = []) : step s = .next s := by
  simp only [step, idle]

/-- Settles O1: the queue has a front command or is empty, and the step follows it. -/
theorem stepRunsTheFrontCommand : Obligations.StepRunsTheFrontCommand :=
  fun _ => ⟨fun _ _ => step_of_pending_cons, step_of_pending_nil⟩

end Sys2Proof.Machine
